-- ==== Sys2Proof/Word.lean ====
section
/-! DEFINITION. The two fixed widths the block's words have (spec/00_scope.md R6, R7; spec/30_encoding.md R71). -/

namespace Sys2Proof

/-- A 64-bit port: an address register, a byte address, a byte count, a region bound (R6, R25, R31). -/
abbrev Word := BitVec 64

/-- The configuration byte (R26). -/
abbrev Byte := BitVec 8

end Sys2Proof
end

