-- ==== Sys2Proof/Config.lean ====
section
/-! DEFINITION. What is fixed for one block: the constants of spec/00_scope.md R6 and R7, the parameter
NO_MATCH_POLICY, and the free values shown on outputs the spec calls unspecified. -/

namespace Sys2Proof

/-- What a consumer is told of an access that no entry contains (R7, R125). -/
inductive NoMatchPolicy where
  | allow
  | deny
  deriving DecidableEq, Repr, Inhabited

/-- `ADDR_SHIFT` (R6, R83). -/
def Config.addrShift : Nat := 2

/-- `NAPOT_GRANULE_LOG2` (R6). -/
def Config.napotGranuleLog2 : Nat := 3

/-- `NAPOT_BIAS = ADDR_SHIFT + NAPOT_GRANULE_LOG2`, so that `log2(size) = t + 5` (R6, R88). -/
def Config.napotBias : Nat := Config.addrShift + Config.napotGranuleLog2

/-- `NA4_SIZE` (R6, R87, R91). -/
def Config.na4Size : Nat := 4

/-- `AW`, the target address width (R6). -/
def Config.addressWidth : Nat := 64

/-- `FULL_END` (R6, R89): also the largest value a 64-bit bound port carries (R95). -/
def Config.fullEnd : Nat := 2 ^ Config.addressWidth - 1

/-- `PMPADDR_FIELD_W`: the significant bits of an address register (R6, R25). -/
def Config.pmpaddrFieldWidth : Nat := 54

/-- `IDX_W = max(1, ceil(log2(N)))`, and 1 for `N = 0` (R7). -/
def Config.idxWidth (n : Nat) : Nat := if n ≤ 2 then 1 else Nat.log2 (n - 1) + 1

/-- The open parameter `NO_MATCH_POLICY` as it stands at reset (R7, D14): no body, so nothing can be
proved of a run that depends on which policy it is. Log 9. -/
opaque Config.noMatchPolicy : NoMatchPolicy

/-- Which decoder's ports (R31, R32), so that no two of them share an unspecified value. Log 7. -/
inductive DecoderId where
  /-- The stand-alone decoder, whose input ports the caller drives. -/
  | alone
  /-- The resolver's decoder of the entry at `index`. -/
  | entry (index : Nat)
  deriving DecidableEq, Repr

/-- The unspecified `start` port of one decoder, at one evaluation (R95). Log 7. -/
opaque Config.freeStart (tick : Nat) (decoder : DecoderId) : Word

/-- The unspecified `end` port of one decoder, at one evaluation (R95). Log 7. -/
opaque Config.freeEnd (tick : Nat) (decoder : DecoderId) : Word

/-- The unspecified `hit` of an evaluation with `err = 1` (R145). Log 7. -/
opaque Config.freeHit (tick : Nat) : Bool

/-- The unspecified `match_index` of an evaluation with `err = 1`, before it is cut to `IDX_W` bits (R145). Log 8. -/
opaque Config.freeMatchIndex (tick : Nat) : Nat

/-- The unspecified `grant` of an evaluation with `err = 1` (R145). Log 7. -/
opaque Config.freeGrant (tick : Nat) : Bool

/-- The unspecified `perm_set` of an evaluation with `err = 1` (R145). Log 7. -/
opaque Config.freePermSet (tick : Nat) : BitVec 3

/-- The unspecified `access_ok` of an evaluation with `err = 1` (R145). Log 7. -/
opaque Config.freeAccessOk (tick : Nat) : Bool

end Sys2Proof
end

