-- ==== Sys2Proof/Syntax.lean ====
section
/-! DEFINITION. The block's operations as syntax: one constructor of `Instr` per row of spec/opcode_table.json,
and the words a caller presents (spec/30_encoding.md R60 to R71). -/

namespace Sys2Proof

/-- The address-matching mode, field A of the configuration byte (R61). -/
inductive Mode where
  | off
  | tor
  | na4
  | napot
  deriving DecidableEq, Repr

/-- The access type of a request (R30). -/
inductive AccessType where
  | r
  | w
  | x
  deriving DecidableEq, Repr

/-- One entry of the table: the address register and the configuration byte (R24, R25, R26). -/
structure Entry where
  a : Word
  cfg : Byte
  deriving DecidableEq, Repr

/-- The input ports of one decoder (R31). -/
structure DecIn where
  addressRegister : Word
  configByte : Byte
  prevValid : Bool
  prevAddressRegister : Word
  deriving DecidableEq, Repr

/-- Which of the block's formats a presented word has. CFG words are presented for PERM alone or for a
region, ADDR words for a NAPOT sub-case, CFG and ADDR together for DECODE, a sequence of `n` entries for
DECODE_ALL, and REQ words for a request (R68, R71). The tag is the model's own: log 2, log 4. -/
inductive Form where
  | perm
  | region
  | napot
  | entry
  | table (n : Nat)
  | request
  deriving DecidableEq, Repr

/-- One presented operation: its format and its bits as one number, bit 0 the least significant. -/
structure OpWord where
  form : Form
  bits : Nat
  deriving DecidableEq, Repr

/-- The block's operations (R68), one constructor per row of the opcode table. -/
inductive Instr where
  /-- PERM (R80). -/
  | perm (cfg : Byte)
  /-- REGION.OFF (R85). -/
  | regionOff (d : DecIn)
  /-- REGION.TOR (R86). -/
  | regionTor (d : DecIn)
  /-- REGION.NA4 (R87). -/
  | regionNa4 (d : DecIn)
  /-- REGION.NAPOT (R88). -/
  | regionNapot (d : DecIn)
  /-- REGION.NAPOT.FALLBACK, `t = 0` (R91). -/
  | regionNapotFallback (a : Word)
  /-- REGION.NAPOT.T1 (R90). -/
  | regionNapotT1 (a : Word)
  /-- REGION.NAPOT.T2 (R90). -/
  | regionNapotT2 (a : Word)
  /-- REGION.NAPOT.T3 (R90). -/
  | regionNapotT3 (a : Word)
  /-- REGION.NAPOT.T4 (R90). -/
  | regionNapotT4 (a : Word)
  /-- REGION.NAPOT.T5 (R90). -/
  | regionNapotT5 (a : Word)
  /-- REGION.NAPOT.T6 (R90). -/
  | regionNapotT6 (a : Word)
  /-- REGION.NAPOT.T7 (R90). -/
  | regionNapotT7 (a : Word)
  /-- REGION.NAPOT.T8 (R90). -/
  | regionNapotT8 (a : Word)
  /-- REGION.NAPOT.T9 (R90). -/
  | regionNapotT9 (a : Word)
  /-- REGION.NAPOT.T10 (R90). -/
  | regionNapotT10 (a : Word)
  /-- REGION.NAPOT.T11 (R90). -/
  | regionNapotT11 (a : Word)
  /-- REGION.NAPOT.T12 (R90). -/
  | regionNapotT12 (a : Word)
  /-- REGION.NAPOT.T13 (R90). -/
  | regionNapotT13 (a : Word)
  /-- REGION.NAPOT.T14 (R90). -/
  | regionNapotT14 (a : Word)
  /-- REGION.NAPOT.T15 (R90). -/
  | regionNapotT15 (a : Word)
  /-- REGION.NAPOT.T16 (R90). -/
  | regionNapotT16 (a : Word)
  /-- REGION.NAPOT.T17 (R90). -/
  | regionNapotT17 (a : Word)
  /-- REGION.NAPOT.T18 (R90). -/
  | regionNapotT18 (a : Word)
  /-- REGION.NAPOT.T19 (R90). -/
  | regionNapotT19 (a : Word)
  /-- REGION.NAPOT.T20 (R90). -/
  | regionNapotT20 (a : Word)
  /-- REGION.NAPOT.T21 (R90). -/
  | regionNapotT21 (a : Word)
  /-- REGION.NAPOT.T22 (R90). -/
  | regionNapotT22 (a : Word)
  /-- REGION.NAPOT.T23 (R90). -/
  | regionNapotT23 (a : Word)
  /-- REGION.NAPOT.T24 (R90). -/
  | regionNapotT24 (a : Word)
  /-- REGION.NAPOT.T25 (R90). -/
  | regionNapotT25 (a : Word)
  /-- REGION.NAPOT.T26 (R90). -/
  | regionNapotT26 (a : Word)
  /-- REGION.NAPOT.T27 (R90). -/
  | regionNapotT27 (a : Word)
  /-- REGION.NAPOT.T28 (R90). -/
  | regionNapotT28 (a : Word)
  /-- REGION.NAPOT.T29 (R90). -/
  | regionNapotT29 (a : Word)
  /-- REGION.NAPOT.T30 (R90). -/
  | regionNapotT30 (a : Word)
  /-- REGION.NAPOT.T31 (R90). -/
  | regionNapotT31 (a : Word)
  /-- REGION.NAPOT.T32 (R90). -/
  | regionNapotT32 (a : Word)
  /-- REGION.NAPOT.T33 (R90). -/
  | regionNapotT33 (a : Word)
  /-- REGION.NAPOT.T34 (R90). -/
  | regionNapotT34 (a : Word)
  /-- REGION.NAPOT.T35 (R90). -/
  | regionNapotT35 (a : Word)
  /-- REGION.NAPOT.T36 (R90). -/
  | regionNapotT36 (a : Word)
  /-- REGION.NAPOT.T37 (R90). -/
  | regionNapotT37 (a : Word)
  /-- REGION.NAPOT.T38 (R90). -/
  | regionNapotT38 (a : Word)
  /-- REGION.NAPOT.T39 (R90). -/
  | regionNapotT39 (a : Word)
  /-- REGION.NAPOT.T40 (R90). -/
  | regionNapotT40 (a : Word)
  /-- REGION.NAPOT.T41 (R90). -/
  | regionNapotT41 (a : Word)
  /-- REGION.NAPOT.T42 (R90). -/
  | regionNapotT42 (a : Word)
  /-- REGION.NAPOT.T43 (R90). -/
  | regionNapotT43 (a : Word)
  /-- REGION.NAPOT.T44 (R90). -/
  | regionNapotT44 (a : Word)
  /-- REGION.NAPOT.T45 (R90). -/
  | regionNapotT45 (a : Word)
  /-- REGION.NAPOT.T46 (R90). -/
  | regionNapotT46 (a : Word)
  /-- REGION.NAPOT.T47 (R90). -/
  | regionNapotT47 (a : Word)
  /-- REGION.NAPOT.T48 (R90). -/
  | regionNapotT48 (a : Word)
  /-- REGION.NAPOT.T49 (R90). -/
  | regionNapotT49 (a : Word)
  /-- REGION.NAPOT.T50 (R90). -/
  | regionNapotT50 (a : Word)
  /-- REGION.NAPOT.T51 (R90). -/
  | regionNapotT51 (a : Word)
  /-- REGION.NAPOT.T52 (R90). -/
  | regionNapotT52 (a : Word)
  /-- REGION.NAPOT.T53 (R90). -/
  | regionNapotT53 (a : Word)
  /-- REGION.NAPOT.T54 (R90). -/
  | regionNapotT54 (a : Word)
  /-- REGION.NAPOT.T55 (R90). -/
  | regionNapotT55 (a : Word)
  /-- REGION.NAPOT.T56 (R90). -/
  | regionNapotT56 (a : Word)
  /-- REGION.NAPOT.T57 (R90). -/
  | regionNapotT57 (a : Word)
  /-- REGION.NAPOT.T58 (R90). -/
  | regionNapotT58 (a : Word)
  /-- REGION.NAPOT.ALL, `t = 59` (R89). -/
  | regionNapotAll (a : Word)
  /-- REGION.NAPOT.OVER, `t >= 60` (R92). -/
  | regionNapotOver (a : Word)
  /-- DECODE (R94, R95). -/
  | decodeEntry (d : DecIn)
  /-- DECODE_ALL (R97). -/
  | decodeAll (table : List Entry)
  /-- RESOLVE.P.R (R118); `size` is the `req_size` port, ignored in the point form. -/
  | resolvePR (address size : Word)
  /-- RESOLVE.P.W (R119). -/
  | resolvePW (address size : Word)
  /-- RESOLVE.P.X (R120). -/
  | resolvePX (address size : Word)
  /-- RESOLVE.S.R (R121). -/
  | resolveSR (address size : Word)
  /-- RESOLVE.S.W (R122). -/
  | resolveSW (address size : Word)
  /-- RESOLVE.S.X (R123). -/
  | resolveSX (address size : Word)
  /-- RESERVED.P.3 (R70). -/
  | reservedP3 (address size : Word)
  /-- RESERVED.S.3 (R70). -/
  | reservedS3 (address size : Word)
  deriving DecidableEq, Repr

/-- The ADDR-format row that belongs to `t` trailing ones (R63, R68). -/
def Instr.napotByCount (t : Nat) (a : Word) : Instr :=
  match t with
  | 0 => .regionNapotFallback a
  | 1 => .regionNapotT1 a
  | 2 => .regionNapotT2 a
  | 3 => .regionNapotT3 a
  | 4 => .regionNapotT4 a
  | 5 => .regionNapotT5 a
  | 6 => .regionNapotT6 a
  | 7 => .regionNapotT7 a
  | 8 => .regionNapotT8 a
  | 9 => .regionNapotT9 a
  | 10 => .regionNapotT10 a
  | 11 => .regionNapotT11 a
  | 12 => .regionNapotT12 a
  | 13 => .regionNapotT13 a
  | 14 => .regionNapotT14 a
  | 15 => .regionNapotT15 a
  | 16 => .regionNapotT16 a
  | 17 => .regionNapotT17 a
  | 18 => .regionNapotT18 a
  | 19 => .regionNapotT19 a
  | 20 => .regionNapotT20 a
  | 21 => .regionNapotT21 a
  | 22 => .regionNapotT22 a
  | 23 => .regionNapotT23 a
  | 24 => .regionNapotT24 a
  | 25 => .regionNapotT25 a
  | 26 => .regionNapotT26 a
  | 27 => .regionNapotT27 a
  | 28 => .regionNapotT28 a
  | 29 => .regionNapotT29 a
  | 30 => .regionNapotT30 a
  | 31 => .regionNapotT31 a
  | 32 => .regionNapotT32 a
  | 33 => .regionNapotT33 a
  | 34 => .regionNapotT34 a
  | 35 => .regionNapotT35 a
  | 36 => .regionNapotT36 a
  | 37 => .regionNapotT37 a
  | 38 => .regionNapotT38 a
  | 39 => .regionNapotT39 a
  | 40 => .regionNapotT40 a
  | 41 => .regionNapotT41 a
  | 42 => .regionNapotT42 a
  | 43 => .regionNapotT43 a
  | 44 => .regionNapotT44 a
  | 45 => .regionNapotT45 a
  | 46 => .regionNapotT46 a
  | 47 => .regionNapotT47 a
  | 48 => .regionNapotT48 a
  | 49 => .regionNapotT49 a
  | 50 => .regionNapotT50 a
  | 51 => .regionNapotT51 a
  | 52 => .regionNapotT52 a
  | 53 => .regionNapotT53 a
  | 54 => .regionNapotT54 a
  | 55 => .regionNapotT55 a
  | 56 => .regionNapotT56 a
  | 57 => .regionNapotT57 a
  | 58 => .regionNapotT58 a
  | 59 => .regionNapotAll a
  | _ => .regionNapotOver a

end Sys2Proof
end

