-- ==== Sys2Proof/WellFormed.lean ====
section
/-! DEFINITION. Which terms of `Instr` are instructions: the match and mask columns of spec/opcode_table.json. -/

namespace Sys2Proof

/-- A CFG row's check: `cfg & 0x18` is the row's match (R61, R68). -/
def cfgMatches (m cfg : Byte) : Bool := cfg &&& 0x18 == m

/-- An ADDR row's check for `t` trailing ones: bits `t..0` of the register are `0` then `t` ones (R63). -/
def addrMatches (t : Nat) (a : Word) : Bool := a.toNat % 2 ^ (t + 1) == 2 ^ t - 1

/-- The check of the row REGION.NAPOT.OVER: bits 59..0 are all ones (R63). -/
def addrMatchesOver (a : Word) : Bool := a.toNat % 2 ^ 60 == 2 ^ 60 - 1

/-- The opcode row's own condition on its word. -/
def Instr.wf : Instr → Bool
  | .perm _ => true
  | .regionOff d => cfgMatches 0x00 d.configByte
  | .regionTor d => cfgMatches 0x08 d.configByte
  | .regionNa4 d => cfgMatches 0x10 d.configByte
  | .regionNapot d => cfgMatches 0x18 d.configByte
  | .regionNapotFallback a => addrMatches 0 a
  | .regionNapotT1 a => addrMatches 1 a
  | .regionNapotT2 a => addrMatches 2 a
  | .regionNapotT3 a => addrMatches 3 a
  | .regionNapotT4 a => addrMatches 4 a
  | .regionNapotT5 a => addrMatches 5 a
  | .regionNapotT6 a => addrMatches 6 a
  | .regionNapotT7 a => addrMatches 7 a
  | .regionNapotT8 a => addrMatches 8 a
  | .regionNapotT9 a => addrMatches 9 a
  | .regionNapotT10 a => addrMatches 10 a
  | .regionNapotT11 a => addrMatches 11 a
  | .regionNapotT12 a => addrMatches 12 a
  | .regionNapotT13 a => addrMatches 13 a
  | .regionNapotT14 a => addrMatches 14 a
  | .regionNapotT15 a => addrMatches 15 a
  | .regionNapotT16 a => addrMatches 16 a
  | .regionNapotT17 a => addrMatches 17 a
  | .regionNapotT18 a => addrMatches 18 a
  | .regionNapotT19 a => addrMatches 19 a
  | .regionNapotT20 a => addrMatches 20 a
  | .regionNapotT21 a => addrMatches 21 a
  | .regionNapotT22 a => addrMatches 22 a
  | .regionNapotT23 a => addrMatches 23 a
  | .regionNapotT24 a => addrMatches 24 a
  | .regionNapotT25 a => addrMatches 25 a
  | .regionNapotT26 a => addrMatches 26 a
  | .regionNapotT27 a => addrMatches 27 a
  | .regionNapotT28 a => addrMatches 28 a
  | .regionNapotT29 a => addrMatches 29 a
  | .regionNapotT30 a => addrMatches 30 a
  | .regionNapotT31 a => addrMatches 31 a
  | .regionNapotT32 a => addrMatches 32 a
  | .regionNapotT33 a => addrMatches 33 a
  | .regionNapotT34 a => addrMatches 34 a
  | .regionNapotT35 a => addrMatches 35 a
  | .regionNapotT36 a => addrMatches 36 a
  | .regionNapotT37 a => addrMatches 37 a
  | .regionNapotT38 a => addrMatches 38 a
  | .regionNapotT39 a => addrMatches 39 a
  | .regionNapotT40 a => addrMatches 40 a
  | .regionNapotT41 a => addrMatches 41 a
  | .regionNapotT42 a => addrMatches 42 a
  | .regionNapotT43 a => addrMatches 43 a
  | .regionNapotT44 a => addrMatches 44 a
  | .regionNapotT45 a => addrMatches 45 a
  | .regionNapotT46 a => addrMatches 46 a
  | .regionNapotT47 a => addrMatches 47 a
  | .regionNapotT48 a => addrMatches 48 a
  | .regionNapotT49 a => addrMatches 49 a
  | .regionNapotT50 a => addrMatches 50 a
  | .regionNapotT51 a => addrMatches 51 a
  | .regionNapotT52 a => addrMatches 52 a
  | .regionNapotT53 a => addrMatches 53 a
  | .regionNapotT54 a => addrMatches 54 a
  | .regionNapotT55 a => addrMatches 55 a
  | .regionNapotT56 a => addrMatches 56 a
  | .regionNapotT57 a => addrMatches 57 a
  | .regionNapotT58 a => addrMatches 58 a
  | .regionNapotAll a => addrMatches 59 a
  | .regionNapotOver a => addrMatchesOver a
  | .decodeEntry _ => true
  | .decodeAll _ => true
  | .resolvePR _ _ => true
  | .resolvePW _ _ => true
  | .resolvePX _ _ => true
  | .resolveSR _ _ => true
  | .resolveSW _ _ => true
  | .resolveSX _ _ => true
  | .reservedP3 _ _ => true
  | .reservedS3 _ _ => true

/-- `i` is an instruction of the opcode table. -/
abbrev WellFormed (i : Instr) : Prop := i.wf = true

end Sys2Proof
end

