-- ==== Sys2Proof/Decode.lean ====
section
/-! DEFINITION. From presented words to operations and back (spec/30_encoding.md R60 to R71): the bit fields, the
decoder, total and refusing by name, the encoder, and the opcode table's own untagged words. -/

namespace Sys2Proof

/-! ### Fields -/

/-- `cto` on a number, looking at no more than `fuel` bits (R10). -/
def ctoBits : Nat → Nat → Nat
  | 0, _ => 0
  | fuel + 1, n => if n % 2 = 1 then ctoBits fuel (n / 2) + 1 else 0

/-- Count of trailing ones of a 64-bit value, `0..64` (R10). -/
def cto (v : Word) : Nat := ctoBits 64 v.toNat

/-- The mode with a given 2-bit number (R61). -/
def modeOfCode (c : BitVec 2) : Mode :=
  match c.toNat with
  | 0 => .off
  | 1 => .tor
  | 2 => .na4
  | _ => .napot

/-- The `matching_mode` port's 2-bit number (R61, R65). -/
def Mode.code : Mode → BitVec 2
  | .off => 0
  | .tor => 1
  | .na4 => 2
  | .napot => 3

/-- Field A, bits 4:3 of the configuration byte (R60). -/
def modeOf (cfg : Byte) : Mode := modeOfCode (cfg.extractLsb' 3 2)

/-- The lengths of the formats (R71); CFG and ADDR words that reach a decoder carry its two `prev` ports above. -/
def Form.width : Form → Nat
  | .perm => 8
  | .region => 137
  | .napot => 64
  | .entry => 137
  | .table n => 72 * n
  | .request => 131

/-! ### Packing and unpacking. Layout: log 4. -/

/-- An entry in 72 bits: the byte at 7:0, the register at 71:8. -/
def packEntry (e : Entry) : Nat := e.cfg.toNat + 2 ^ 8 * e.a.toNat

/-- The entry in the low 72 bits. -/
def unpackEntry (b : Nat) : Entry := { a := BitVec.ofNat 64 (b / 2 ^ 8), cfg := BitVec.ofNat 8 b }

/-- A table, entry `i` at bits `72 i + 71 .. 72 i`. -/
def packTable : List Entry → Nat
  | [] => 0
  | e :: es => packEntry e + 2 ^ 72 * packTable es

/-- The `n` entries in the low `72 n` bits. -/
def unpackTable : Nat → Nat → List Entry
  | 0, _ => []
  | n + 1, b => unpackEntry b :: unpackTable n (b / 2 ^ 72)

/-- The decoder ports in 137 bits: byte 7:0, register 71:8, `prev_valid` 72, previous register 136:73. -/
def packDecIn (d : DecIn) : Nat :=
  d.configByte.toNat + 2 ^ 8 * d.addressRegister.toNat + 2 ^ 72 * d.prevValid.toNat + 2 ^ 73 * d.prevAddressRegister.toNat

/-- The decoder ports in the low 137 bits. -/
def unpackDecIn (b : Nat) : DecIn :=
  { addressRegister := BitVec.ofNat 64 (b / 2 ^ 8)
    configByte := BitVec.ofNat 8 b
    prevValid := b / 2 ^ 72 % 2 == 1
    prevAddressRegister := BitVec.ofNat 64 (b / 2 ^ 73) }

/-- A request in 131 bits: `req_op` 2:0, `req_address` 66:3, `req_size` 130:67. -/
def packReq (op : Nat) (address size : Word) : Nat := op + 2 ^ 3 * address.toNat + 2 ^ 67 * size.toNat

/-! ### The decoder -/

/-- Why a presented word is no operation. -/
inductive DecodeError where
  /-- The word has a bit beyond its format's fixed length (R71). -/
  | tooWide (form : Form)
  deriving DecidableEq, Repr

/-- The region operation that field A selects (R61, R67). -/
def decodeRegion (d : DecIn) : Instr :=
  match modeOf d.configByte with
  | .off => .regionOff d
  | .tor => .regionTor d
  | .na4 => .regionNa4 d
  | .napot => .regionNapot d

/-- The NAPOT sub-case that the register's trailing ones select (R67, R88). -/
def decodeNapot (a : Word) : Instr := Instr.napotByCount (cto a) a

/-- The operation of a request opcode `req_op = (req_size_valid, req_type)` (R64). -/
def decodeReq (op : Nat) (address size : Word) : Instr :=
  match op with
  | 0 => .resolvePR address size
  | 1 => .resolvePW address size
  | 2 => .resolvePX address size
  | 3 => .reservedP3 address size
  | 4 => .resolveSR address size
  | 5 => .resolveSW address size
  | 6 => .resolveSX address size
  | _ => .reservedS3 address size

/-- The operation in the low bits of a word of the given format. -/
def decodeBits (form : Form) (b : Nat) : Instr :=
  match form with
  | .perm => .perm (BitVec.ofNat 8 b)
  | .region => decodeRegion (unpackDecIn b)
  | .napot => decodeNapot (BitVec.ofNat 64 b)
  | .entry => .decodeEntry (unpackDecIn b)
  | .table n => .decodeAll (unpackTable n b)
  | .request => decodeReq (b % 2 ^ 3) (BitVec.ofNat 64 (b / 2 ^ 3)) (BitVec.ofNat 64 (b / 2 ^ 67))

/-- The decoder, total on words: every word that fits its format is an operation (R69, R70, R71). -/
def decode (o : OpWord) : Except DecodeError Instr :=
  if o.bits < 2 ^ o.form.width then .ok (decodeBits o.form o.bits) else .error (.tooWide o.form)

/-! ### The encoder -/

/-- The word of an instruction. -/
def encode : Instr → OpWord
  | .perm cfg => ⟨.perm, cfg.toNat⟩
  | .regionOff d => ⟨.region, packDecIn d⟩
  | .regionTor d => ⟨.region, packDecIn d⟩
  | .regionNa4 d => ⟨.region, packDecIn d⟩
  | .regionNapot d => ⟨.region, packDecIn d⟩
  | .regionNapotFallback a => ⟨.napot, a.toNat⟩
  | .regionNapotT1 a => ⟨.napot, a.toNat⟩
  | .regionNapotT2 a => ⟨.napot, a.toNat⟩
  | .regionNapotT3 a => ⟨.napot, a.toNat⟩
  | .regionNapotT4 a => ⟨.napot, a.toNat⟩
  | .regionNapotT5 a => ⟨.napot, a.toNat⟩
  | .regionNapotT6 a => ⟨.napot, a.toNat⟩
  | .regionNapotT7 a => ⟨.napot, a.toNat⟩
  | .regionNapotT8 a => ⟨.napot, a.toNat⟩
  | .regionNapotT9 a => ⟨.napot, a.toNat⟩
  | .regionNapotT10 a => ⟨.napot, a.toNat⟩
  | .regionNapotT11 a => ⟨.napot, a.toNat⟩
  | .regionNapotT12 a => ⟨.napot, a.toNat⟩
  | .regionNapotT13 a => ⟨.napot, a.toNat⟩
  | .regionNapotT14 a => ⟨.napot, a.toNat⟩
  | .regionNapotT15 a => ⟨.napot, a.toNat⟩
  | .regionNapotT16 a => ⟨.napot, a.toNat⟩
  | .regionNapotT17 a => ⟨.napot, a.toNat⟩
  | .regionNapotT18 a => ⟨.napot, a.toNat⟩
  | .regionNapotT19 a => ⟨.napot, a.toNat⟩
  | .regionNapotT20 a => ⟨.napot, a.toNat⟩
  | .regionNapotT21 a => ⟨.napot, a.toNat⟩
  | .regionNapotT22 a => ⟨.napot, a.toNat⟩
  | .regionNapotT23 a => ⟨.napot, a.toNat⟩
  | .regionNapotT24 a => ⟨.napot, a.toNat⟩
  | .regionNapotT25 a => ⟨.napot, a.toNat⟩
  | .regionNapotT26 a => ⟨.napot, a.toNat⟩
  | .regionNapotT27 a => ⟨.napot, a.toNat⟩
  | .regionNapotT28 a => ⟨.napot, a.toNat⟩
  | .regionNapotT29 a => ⟨.napot, a.toNat⟩
  | .regionNapotT30 a => ⟨.napot, a.toNat⟩
  | .regionNapotT31 a => ⟨.napot, a.toNat⟩
  | .regionNapotT32 a => ⟨.napot, a.toNat⟩
  | .regionNapotT33 a => ⟨.napot, a.toNat⟩
  | .regionNapotT34 a => ⟨.napot, a.toNat⟩
  | .regionNapotT35 a => ⟨.napot, a.toNat⟩
  | .regionNapotT36 a => ⟨.napot, a.toNat⟩
  | .regionNapotT37 a => ⟨.napot, a.toNat⟩
  | .regionNapotT38 a => ⟨.napot, a.toNat⟩
  | .regionNapotT39 a => ⟨.napot, a.toNat⟩
  | .regionNapotT40 a => ⟨.napot, a.toNat⟩
  | .regionNapotT41 a => ⟨.napot, a.toNat⟩
  | .regionNapotT42 a => ⟨.napot, a.toNat⟩
  | .regionNapotT43 a => ⟨.napot, a.toNat⟩
  | .regionNapotT44 a => ⟨.napot, a.toNat⟩
  | .regionNapotT45 a => ⟨.napot, a.toNat⟩
  | .regionNapotT46 a => ⟨.napot, a.toNat⟩
  | .regionNapotT47 a => ⟨.napot, a.toNat⟩
  | .regionNapotT48 a => ⟨.napot, a.toNat⟩
  | .regionNapotT49 a => ⟨.napot, a.toNat⟩
  | .regionNapotT50 a => ⟨.napot, a.toNat⟩
  | .regionNapotT51 a => ⟨.napot, a.toNat⟩
  | .regionNapotT52 a => ⟨.napot, a.toNat⟩
  | .regionNapotT53 a => ⟨.napot, a.toNat⟩
  | .regionNapotT54 a => ⟨.napot, a.toNat⟩
  | .regionNapotT55 a => ⟨.napot, a.toNat⟩
  | .regionNapotT56 a => ⟨.napot, a.toNat⟩
  | .regionNapotT57 a => ⟨.napot, a.toNat⟩
  | .regionNapotT58 a => ⟨.napot, a.toNat⟩
  | .regionNapotAll a => ⟨.napot, a.toNat⟩
  | .regionNapotOver a => ⟨.napot, a.toNat⟩
  | .decodeEntry d => ⟨.entry, packDecIn d⟩
  | .decodeAll table => ⟨.table table.length, packTable table⟩
  | .resolvePR address size => ⟨.request, packReq 0 address size⟩
  | .resolvePW address size => ⟨.request, packReq 1 address size⟩
  | .resolvePX address size => ⟨.request, packReq 2 address size⟩
  | .resolveSR address size => ⟨.request, packReq 4 address size⟩
  | .resolveSW address size => ⟨.request, packReq 5 address size⟩
  | .resolveSX address size => ⟨.request, packReq 6 address size⟩
  | .reservedP3 address size => ⟨.request, packReq 3 address size⟩
  | .reservedS3 address size => ⟨.request, packReq 7 address size⟩

/-! ### The opcode table's words -/

/-- The format of an opcode-table word of `nbits` bits. The table tags no word with a format and its 8-bit
words are shared by PERM, REGION and (in whole bytes) REQ: 1 to 7 are read as a request opcode, every other
byte as a configuration byte that selects a region. Log 5. -/
def tableForm (nbits w : Nat) : Option Form :=
  if nbits = 3 then some .request
  else if nbits = 8 then (if 0 < w ∧ w < 8 then some .request else some .region)
  else if nbits = 64 then some .napot
  else if nbits = 72 then some .entry
  else if nbits % 72 = 0 then some (.table (nbits / 72))
  else none

/-- An opcode-table word as a presented word, the operand bits above it zero. -/
def tableWord (nbits w : Nat) : Option OpWord :=
  if w < 2 ^ nbits then (tableForm nbits w).map fun f => ⟨f, w⟩ else none

/-- The instruction the decoder reads from an opcode-table word. -/
def decodeTableWord (nbits w : Nat) : Option Instr :=
  match tableWord nbits w with
  | some o => (decode o).toOption
  | none => none

end Sys2Proof
end

