-- ==== Sys2Proof/Machine/State.lean ====
section
/-! DEFINITION. The inputs the caller presents and the ports the block drives (spec/10_state.md R24 to R32), the
reasons a step can stop, and the machine right after reset. Log 1. -/

namespace Sys2Proof.Machine

/-- The five values derived from the configuration byte (R27). -/
structure Flags where
  readable : Bool
  writable : Bool
  executable : Bool
  locked : Bool
  mode : Mode
  deriving DecidableEq, Repr

/-- An exact region: the half-open byte range from `s` up to, not including, `e`, over unbounded integers (R9, R29). -/
structure Region where
  s : Nat
  e : Nat
  deriving DecidableEq, Repr

/-- The output ports of one decoder (R31) and, beside them, the exact region they are narrowed from (R94, R95;
log 17). `endPort` is the port `end`. -/
structure DecOut where
  flags : Flags
  region : Region
  start : Word
  endPort : Word
  rangeErr : Bool
  deriving DecidableEq, Repr

/-- The request ports (R30, R32). -/
structure ReqIn where
  reqAddress : Word
  reqSizeValid : Bool
  reqSize : Word
  reqType : BitVec 2
  deriving DecidableEq, Repr

/-- The resolver's result ports (R32); `matchIndex` has `IDX_W` bits, a width that depends on the table. -/
structure ResOut where
  hit : Bool
  matchIndex : Nat
  grant : Bool
  permSet : BitVec 3
  accessOk : Bool
  err : Bool
  deriving DecidableEq, Repr

/-- All the machine has: the caller's inputs, the parameter, the ports that show the function of those inputs
(R33; log 1), and the model's own `program` and `tick` (log 2, log 7). -/
structure State where
  /-- The entry table `E` (R24); its length is the parameter `N` (R7). -/
  table : List Entry
  /-- The decoder's input ports (R31). -/
  decIn : DecIn
  /-- The decoder's output ports (R31). -/
  decOut : DecOut
  /-- The resolver's request ports (R32). -/
  req : ReqIn
  /-- The resolver's result ports (R32). -/
  res : ResOut
  /-- The per-entry decode outputs (R32). -/
  ent : List DecOut
  /-- `NO_MATCH_POLICY` (R7, R125). -/
  policy : NoMatchPolicy
  /-- The operations the caller presents next, first first. The model's own. -/
  program : List OpWord
  /-- The number of the evaluation, which the free values are applied to. The model's own. -/
  tick : Nat
  deriving DecidableEq, Repr

/-- There is no fault: "The block raises no synchronous exception" (spec/60_exceptions.md R140). -/
inductive Fault where
  deriving DecidableEq, Repr

/-- Why a step gives an operation no meaning. -/
inductive Refusal where
  /-- Raised by `exec` for an instruction that has no meaning yet. Safe: the run stops. -/
  | notModelled (mnemonic : String)
  /-- Raised by `step` for a presented word that is no operation of the block. Safe: the run stops. Log 16. -/
  | notAnOperation (why : DecodeError)
  deriving DecidableEq, Repr

/-- The machine right after reset: nothing presented, every input port zero (log 11, log 12), the parameter free
(log 9), and every output the function of those inputs (R33, log 13). -/
def State.reset : State :=
  { table := []
    decIn := { addressRegister := 0, configByte := 0, prevValid := false, prevAddressRegister := 0 }
    decOut :=
      { flags := { readable := false, writable := false, executable := false, locked := false, mode := .off }
        region := { s := 0, e := 0 }
        start := 0
        endPort := 0
        rangeErr := false }
    req := { reqAddress := 0, reqSizeValid := false, reqSize := 0, reqType := 0 }
    res :=
      { hit := false
        matchIndex := 0
        grant := false
        permSet := 0
        accessOk := decide (Config.noMatchPolicy = .allow)
        err := false }
    ent := []
    policy := Config.noMatchPolicy
    program := []
    tick := 0 }

end Sys2Proof.Machine
end

