-- ==== Sys2Proof/Machine/Flags.lean ====
section
/-! DEFINITION. PERM, the block's only flag computation, and what reads the flags (spec/40_decoder.md R80 to R82,
spec/41_resolver.md R115, R116). -/

namespace Sys2Proof.Machine

/-- PERM (R80): bits 0, 1, 2, 4:3 and 7; bits 5 and 6 are read by nothing (R81). -/
def perm (cfg : Byte) : Flags :=
  { readable := cfg.getLsbD 0
    writable := cfg.getLsbD 1
    executable := cfg.getLsbD 2
    locked := cfg.getLsbD 7
    mode := modeOf cfg }

/-- The permission bit an access type names (R115). -/
def Flags.has (f : Flags) : AccessType → Bool
  | .r => f.readable
  | .w => f.writable
  | .x => f.executable

/-- The flag set as `perm_set` carries it: bit 2 X, bit 1 W, bit 0 R (R65). -/
def Flags.permSet (f : Flags) : BitVec 3 :=
  BitVec.ofBool f.executable ++ BitVec.ofBool f.writable ++ BitVec.ofBool f.readable

/-- The access type of a `req_type` code; 3 is reserved and names none (R64, R70). -/
def accessTypeOf (code : BitVec 2) : Option AccessType :=
  match code.toNat with
  | 0 => some .r
  | 1 => some .w
  | 2 => some .x
  | _ => none

end Sys2Proof.Machine
end

