-- ==== Sys2Proof/Machine/Operands.lean ====
section
/-! DEFINITION. Operand assembly and the region rules, in exact arithmetic (spec/30_encoding.md R66,
spec/40_decoder.md R83 to R92). -/

namespace Sys2Proof.Machine

/-- An address register as a byte address: shifted left by `ADDR_SHIFT`, no bit lost (R83). -/
def byteAddress (a : Word) : Nat := a.toNat <<< Config.addrShift

/-- The `prev` operand of the decoder ports (R84): the raw register of the preceding entry, if there is one. -/
def prevOperand (d : DecIn) : Option Word := if d.prevValid then some d.prevAddressRegister else none

/-- The decoder ports of entry `e` after `prev` (R32, R97). The previous register's port is ignored when there is
no previous entry (R31). -/
def decInOf (prev : Option Word) (e : Entry) : DecIn :=
  { addressRegister := e.a
    configByte := e.cfg
    prevValid := prev.isSome
    prevAddressRegister := prev.getD 0 }

/-- The byte with field A set to NAPOT and its other bits as they are (R60, R61; log 22). -/
def napotByte (cfg : Byte) : Byte := cfg ||| 0x18

/-- The decoder ports of a NAPOT sub-case: the register, in an entry of mode NAPOT (R68, R91; log 22). -/
def napotPorts (a : Word) (d : DecIn) : DecIn :=
  { d with addressRegister := a, configByte := napotByte d.configByte }

/-- The region of `size` bytes at `base`. -/
def regionAt (base size : Nat) : Region := { s := base, e := base + size }

/-- REGION.OFF (R85): the value that denotes "no region" (R29). -/
def offRegion : Region := { s := 0, e := 0 }

/-- REGION.TOR (R86). -/
def torRegion (prev : Option Word) (a : Word) : Region :=
  { s := match prev with
      | some p => byteAddress p
      | none => 0
    e := byteAddress a }

/-- REGION.NA4 (R87). -/
def na4Region (a : Word) : Region := regionAt (byteAddress a) Config.na4Size

/-- REGION.NAPOT, fallback, `t = 0` (R91). -/
def napotFallbackRegion (a : Word) : Region := regionAt (byteAddress a) Config.na4Size

/-- REGION.NAPOT, whole address space, `t = 59` (R89). -/
def napotAllRegion : Region := { s := 0, e := Config.fullEnd }

/-- REGION.NAPOT, general case with `t` trailing ones (R90, R92). -/
def napotGeneralRegion (t : Nat) (a : Word) : Region :=
  regionAt ((a.toNat >>> t) <<< (t + Config.addrShift)) (2 ^ (t + Config.napotBias))

/-- REGION.NAPOT, dispatch on the trailing ones (R88). -/
def napotRegion (a : Word) : Region :=
  if cto a + Config.napotBias = Config.addressWidth then napotAllRegion
  else if cto a = 0 then napotFallbackRegion a
  else napotGeneralRegion (cto a) a

/-- The region of an entry, by its matching mode (R94). -/
def regionOf (m : Mode) (prev : Option Word) (a : Word) : Region :=
  match m with
  | .off => offRegion
  | .tor => torRegion prev a
  | .na4 => na4Region a
  | .napot => napotRegion a

end Sys2Proof.Machine
end

