-- ==== Sys2Proof/Machine/Ops.lean ====
section
/-! DEFINITION. The named operations: the updates of State, fetching a presented word, narrowing to the ports,
decoding an entry and a table, containment, the priority scan and the resolver's result. -/

namespace Sys2Proof.Machine

/-! ### Updates -/

def State.setTable (v : List Entry) (s : State) : State := { s with table := v }
def State.setDecIn (v : DecIn) (s : State) : State := { s with decIn := v }
def State.setDecOut (v : DecOut) (s : State) : State := { s with decOut := v }
def State.setReq (v : ReqIn) (s : State) : State := { s with req := v }
def State.setRes (v : ResOut) (s : State) : State := { s with res := v }
def State.setEnt (v : List DecOut) (s : State) : State := { s with ent := v }
def State.setProgram (v : List OpWord) (s : State) : State := { s with program := v }

/-- The evaluation is over: the next one shows other free values. -/
def State.nextTick (s : State) : State := { s with tick := s.tick + 1 }

/-! ### Fetching (log 2) -/

/-- The word the caller presents next, and the state in which it has been taken. -/
def fetch (s : State) : Option (OpWord × State) :=
  match s.program with
  | [] => none
  | o :: rest => some (o, s.setProgram rest)

/-- The state in which `o` is the word presented next. -/
def present (o : OpWord) (s : State) : State := s.setProgram (o :: s.program)

/-! ### Narrowing to the ports (R95) -/

/-- Both exact bounds can be carried by a 64-bit port (R95, R143). -/
def Region.fits (r : Region) : Bool := decide (r.s ≤ Config.fullEnd) && decide (r.e ≤ Config.fullEnd)

/-- The output ports of the decoder `who`, from its flags and exact region (R95). A bound port that the spec leaves
unspecified shows a free value of that decoder's own (log 6, log 7). -/
def narrow (tick : Nat) (who : DecoderId) (f : Flags) (r : Region) : DecOut :=
  { flags := f
    region := r
    start := if r.fits then BitVec.ofNat 64 r.s else Config.freeStart tick who
    endPort := if r.fits then BitVec.ofNat 64 r.e else Config.freeEnd tick who
    rangeErr := !r.fits }

/-- The exact region of the entry on the decoder's ports (R94). -/
def regionOfPorts (d : DecIn) : Region := regionOf (modeOf d.configByte) (prevOperand d) d.addressRegister

/-- DECODE (R94), narrowed (R95). -/
def decodePorts (tick : Nat) (who : DecoderId) (d : DecIn) : DecOut :=
  narrow tick who (perm d.configByte) (regionOfPorts d)

/-- DECODE_ALL (R97) from entry `index` on: the fold that threads the previous raw register. -/
def decodeFrom (tick : Nat) : Nat → Option Word → List Entry → List DecOut
  | _, _, [] => []
  | index, prev, e :: es =>
    decodePorts tick (.entry index) (decInOf prev e) :: decodeFrom tick (index + 1) (some e.a) es

/-- DECODE_ALL (R97). -/
def decodeTable (tick : Nat) (table : List Entry) : List DecOut := decodeFrom tick 0 none table

/-! ### The resolver -/

/-- CONTAIN.P (R111). -/
def containsPoint (r : Region) (address : Nat) : Bool := decide (r.s ≤ address) && decide (address < r.e)

/-- CONTAIN.S (R112): no subtraction, so nothing can wrap. -/
def containsSized (r : Region) (address size : Nat) : Bool := decide (r.s ≤ address) && decide (address + size ≤ r.e)

/-- Does the region contain the requested access? "No region" contains none (R110), whatever its size. -/
def contains (r : Region) (q : ReqIn) : Bool :=
  if r = offRegion then false
  else if q.reqSizeValid then containsSized r q.reqAddress.toNat q.reqSize.toNat
  else containsPoint r q.reqAddress.toNat

/-- The priority scan (R114) from entry `index` on: the first containing entry and its flags. -/
def scan (q : ReqIn) : Nat → List DecOut → Option (Nat × Flags)
  | _, [] => none
  | index, d :: ds => if contains d.region q then some (index, d.flags) else scan q (index + 1) ds

/-- The sized access runs past the address space (R47, R144). -/
def sizeOverflows (q : ReqIn) : Bool :=
  q.reqSizeValid && decide (2 ^ Config.addressWidth < q.reqAddress.toNat + q.reqSize.toNat)

/-- `req_err` (R144). -/
def reqErr (q : ReqIn) : Bool := (accessTypeOf q.reqType).isNone || sizeOverflows q

/-- `err` (R145): every entry counts, also those after the one that would have matched. -/
def errOf (q : ReqIn) (ds : List DecOut) : Bool := reqErr q || ds.any (·.rangeErr)

/-- The result of a scan (R115, R116) and the verdict on a no match (R125). -/
def resultOf (policy : NoMatchPolicy) (ty : AccessType) : Option (Nat × Flags) → ResOut
  | some (i, f) =>
    { hit := true
      matchIndex := i
      grant := f.has ty
      permSet := if f.has ty then f.permSet else 0
      accessOk := f.has ty
      err := false }
  | none =>
    { hit := false
      matchIndex := 0
      grant := false
      permSet := 0
      accessOk := decide (policy = .allow)
      err := false }

/-- The result ports of an evaluation with `err = 1` over `n` entries: every other output unspecified (R145), the
index a number its port can carry (R32). Log 6, log 7, log 8. -/
def inputError (tick n : Nat) : ResOut :=
  { hit := Config.freeHit tick
    matchIndex := Config.freeMatchIndex tick % 2 ^ Config.idxWidth n
    grant := Config.freeGrant tick
    permSet := Config.freePermSet tick
    accessOk := Config.freeAccessOk tick
    err := true }

/-- RESOLVE (R117). -/
def resolve (policy : NoMatchPolicy) (tick : Nat) (table : List Entry) (q : ReqIn) : ResOut :=
  let ds := decodeTable tick table
  match accessTypeOf q.reqType with
  | some ty => if errOf q ds then inputError tick table.length else resultOf policy ty (scan q 0 ds)
  | none => inputError tick table.length

/-! ### Evaluations

Every evaluation drives every output port from the inputs that stand after it (R33): no output survives one (R20,
R142). -/

/-- Drive every output from the inputs: the decoder's flags from its byte (R28) and its bounds from `r`, the region
that the operation gives those ports (R95), the per-entry outputs and the result from the table and the request. A
bound that R95 leaves unspecified is the stand-alone decoder's own free value, no entry's (log 7). -/
def State.drive (r : Region) (s : State) : State :=
  ((s.setDecOut (narrow s.tick .alone (perm s.decIn.configByte) r)).setEnt (decodeTable s.tick s.table)).setRes
    (resolve s.policy s.tick s.table s.req)

/-- `d` is presented on the decoder's ports, and its rule gives the region `r` (R85 to R88, R94; log 14, log 15). -/
def evalRegion (d : DecIn) (r : Region) (s : State) : State := (s.nextTick.setDecIn d).drive r

/-- A configuration byte is presented for PERM (R80): of the inputs it alone changes, and the outputs follow (R33;
log 23). -/
def evalPerm (cfg : Byte) (s : State) : State :=
  evalRegion { s.decIn with configByte := cfg } (regionOfPorts { s.decIn with configByte := cfg }) s

/-- An address register is presented for a NAPOT sub-case, in an entry of mode NAPOT (R68, R91; log 22). -/
def evalNapotCase (a : Word) (r : Region) (s : State) : State :=
  evalRegion (napotPorts a s.decIn) r s

/-- A table is presented (R97; log 18). -/
def evalTable (table : List Entry) (s : State) : State :=
  (s.nextTick.setTable table).drive (regionOfPorts s.decIn)

/-- A request is presented on the table that stands (R117; log 21). -/
def evalRequest (q : ReqIn) (s : State) : State := (s.nextTick.setReq q).drive (regionOfPorts s.decIn)

end Sys2Proof.Machine
end

