-- ==== Sys2Proof/Machine/EntryDecode.lean ====
section
/-! DEFINITION. The operations DECODE and DECODE_ALL (spec/40_decoder.md R94, R95, R97). -/

namespace Sys2Proof.Machine

/-- DECODE (R94, R95): PERM and the region rule the byte's field A selects. -/
def execDecodeEntry (d : DecIn) (s : State) : Host.Outcome State Fault Refusal :=
  .next (evalRegion d (regionOfPorts d) s)

/-- DECODE_ALL (R97). -/
def execDecodeAll (table : List Entry) (s : State) : Host.Outcome State Fault Refusal := .next (evalTable table s)

end Sys2Proof.Machine
end

