-- ==== Sys2Proof/Machine/Perm.lean ====
section
/-! DEFINITION. The operation PERM. -/

namespace Sys2Proof.Machine

/-- PERM (R80). -/
def execPerm (cfg : Byte) (s : State) : Host.Outcome State Fault Refusal := .next (evalPerm cfg s)

end Sys2Proof.Machine
end

