-- ==== Sys2Proof/Machine/Region.lean ====
section
/-! DEFINITION. The region operations: the four modes and the NAPOT sub-cases (spec/40_decoder.md R85 to R92). -/

namespace Sys2Proof.Machine

/-- REGION.OFF (R85). -/
def execRegionOff (d : DecIn) (s : State) : Host.Outcome State Fault Refusal :=
  .next (evalRegion d offRegion s)

/-- REGION.TOR (R86). -/
def execRegionTor (d : DecIn) (s : State) : Host.Outcome State Fault Refusal :=
  .next (evalRegion d (torRegion (prevOperand d) d.addressRegister) s)

/-- REGION.NA4 (R87). -/
def execRegionNa4 (d : DecIn) (s : State) : Host.Outcome State Fault Refusal :=
  .next (evalRegion d (na4Region d.addressRegister) s)

/-- REGION.NAPOT (R88). -/
def execRegionNapot (d : DecIn) (s : State) : Host.Outcome State Fault Refusal :=
  .next (evalRegion d (napotRegion d.addressRegister) s)

/-- REGION.NAPOT.FALLBACK (R91). -/
def execRegionNapotFallback (a : Word) (s : State) : Host.Outcome State Fault Refusal :=
  .next (evalNapotCase a (napotFallbackRegion a) s)

/-- REGION.NAPOT.T1 (R90). -/
def execRegionNapotT1 (a : Word) (s : State) : Host.Outcome State Fault Refusal :=
  .next (evalNapotCase a (napotGeneralRegion 1 a) s)

/-- REGION.NAPOT.T2 (R90). -/
def execRegionNapotT2 (a : Word) (s : State) : Host.Outcome State Fault Refusal :=
  .next (evalNapotCase a (napotGeneralRegion 2 a) s)

/-- REGION.NAPOT.T3 (R90). -/
def execRegionNapotT3 (a : Word) (s : State) : Host.Outcome State Fault Refusal :=
  .next (evalNapotCase a (napotGeneralRegion 3 a) s)

/-- REGION.NAPOT.T4 (R90). -/
def execRegionNapotT4 (a : Word) (s : State) : Host.Outcome State Fault Refusal :=
  .next (evalNapotCase a (napotGeneralRegion 4 a) s)

/-- REGION.NAPOT.T5 (R90). -/
def execRegionNapotT5 (a : Word) (s : State) : Host.Outcome State Fault Refusal :=
  .next (evalNapotCase a (napotGeneralRegion 5 a) s)

/-- REGION.NAPOT.T6 (R90). -/
def execRegionNapotT6 (a : Word) (s : State) : Host.Outcome State Fault Refusal :=
  .next (evalNapotCase a (napotGeneralRegion 6 a) s)

/-- REGION.NAPOT.T7 (R90). -/
def execRegionNapotT7 (a : Word) (s : State) : Host.Outcome State Fault Refusal :=
  .next (evalNapotCase a (napotGeneralRegion 7 a) s)

/-- REGION.NAPOT.T8 (R90). -/
def execRegionNapotT8 (a : Word) (s : State) : Host.Outcome State Fault Refusal :=
  .next (evalNapotCase a (napotGeneralRegion 8 a) s)

/-- REGION.NAPOT.T9 (R90). -/
def execRegionNapotT9 (a : Word) (s : State) : Host.Outcome State Fault Refusal :=
  .next (evalNapotCase a (napotGeneralRegion 9 a) s)

/-- REGION.NAPOT.T10 (R90). -/
def execRegionNapotT10 (a : Word) (s : State) : Host.Outcome State Fault Refusal :=
  .next (evalNapotCase a (napotGeneralRegion 10 a) s)

/-- REGION.NAPOT.T11 (R90). -/
def execRegionNapotT11 (a : Word) (s : State) : Host.Outcome State Fault Refusal :=
  .next (evalNapotCase a (napotGeneralRegion 11 a) s)

/-- REGION.NAPOT.T12 (R90). -/
def execRegionNapotT12 (a : Word) (s : State) : Host.Outcome State Fault Refusal :=
  .next (evalNapotCase a (napotGeneralRegion 12 a) s)

/-- REGION.NAPOT.T13 (R90). -/
def execRegionNapotT13 (a : Word) (s : State) : Host.Outcome State Fault Refusal :=
  .next (evalNapotCase a (napotGeneralRegion 13 a) s)

/-- REGION.NAPOT.T14 (R90). -/
def execRegionNapotT14 (a : Word) (s : State) : Host.Outcome State Fault Refusal :=
  .next (evalNapotCase a (napotGeneralRegion 14 a) s)

/-- REGION.NAPOT.T15 (R90). -/
def execRegionNapotT15 (a : Word) (s : State) : Host.Outcome State Fault Refusal :=
  .next (evalNapotCase a (napotGeneralRegion 15 a) s)

/-- REGION.NAPOT.T16 (R90). -/
def execRegionNapotT16 (a : Word) (s : State) : Host.Outcome State Fault Refusal :=
  .next (evalNapotCase a (napotGeneralRegion 16 a) s)

/-- REGION.NAPOT.T17 (R90). -/
def execRegionNapotT17 (a : Word) (s : State) : Host.Outcome State Fault Refusal :=
  .next (evalNapotCase a (napotGeneralRegion 17 a) s)

/-- REGION.NAPOT.T18 (R90). -/
def execRegionNapotT18 (a : Word) (s : State) : Host.Outcome State Fault Refusal :=
  .next (evalNapotCase a (napotGeneralRegion 18 a) s)

/-- REGION.NAPOT.T19 (R90). -/
def execRegionNapotT19 (a : Word) (s : State) : Host.Outcome State Fault Refusal :=
  .next (evalNapotCase a (napotGeneralRegion 19 a) s)

/-- REGION.NAPOT.T20 (R90). -/
def execRegionNapotT20 (a : Word) (s : State) : Host.Outcome State Fault Refusal :=
  .next (evalNapotCase a (napotGeneralRegion 20 a) s)

/-- REGION.NAPOT.T21 (R90). -/
def execRegionNapotT21 (a : Word) (s : State) : Host.Outcome State Fault Refusal :=
  .next (evalNapotCase a (napotGeneralRegion 21 a) s)

/-- REGION.NAPOT.T22 (R90). -/
def execRegionNapotT22 (a : Word) (s : State) : Host.Outcome State Fault Refusal :=
  .next (evalNapotCase a (napotGeneralRegion 22 a) s)

/-- REGION.NAPOT.T23 (R90). -/
def execRegionNapotT23 (a : Word) (s : State) : Host.Outcome State Fault Refusal :=
  .next (evalNapotCase a (napotGeneralRegion 23 a) s)

/-- REGION.NAPOT.T24 (R90). -/
def execRegionNapotT24 (a : Word) (s : State) : Host.Outcome State Fault Refusal :=
  .next (evalNapotCase a (napotGeneralRegion 24 a) s)

/-- REGION.NAPOT.T25 (R90). -/
def execRegionNapotT25 (a : Word) (s : State) : Host.Outcome State Fault Refusal :=
  .next (evalNapotCase a (napotGeneralRegion 25 a) s)

/-- REGION.NAPOT.T26 (R90). -/
def execRegionNapotT26 (a : Word) (s : State) : Host.Outcome State Fault Refusal :=
  .next (evalNapotCase a (napotGeneralRegion 26 a) s)

/-- REGION.NAPOT.T27 (R90). -/
def execRegionNapotT27 (a : Word) (s : State) : Host.Outcome State Fault Refusal :=
  .next (evalNapotCase a (napotGeneralRegion 27 a) s)

/-- REGION.NAPOT.T28 (R90). -/
def execRegionNapotT28 (a : Word) (s : State) : Host.Outcome State Fault Refusal :=
  .next (evalNapotCase a (napotGeneralRegion 28 a) s)

/-- REGION.NAPOT.T29 (R90). -/
def execRegionNapotT29 (a : Word) (s : State) : Host.Outcome State Fault Refusal :=
  .next (evalNapotCase a (napotGeneralRegion 29 a) s)

/-- REGION.NAPOT.T30 (R90). -/
def execRegionNapotT30 (a : Word) (s : State) : Host.Outcome State Fault Refusal :=
  .next (evalNapotCase a (napotGeneralRegion 30 a) s)

/-- REGION.NAPOT.T31 (R90). -/
def execRegionNapotT31 (a : Word) (s : State) : Host.Outcome State Fault Refusal :=
  .next (evalNapotCase a (napotGeneralRegion 31 a) s)

/-- REGION.NAPOT.T32 (R90). -/
def execRegionNapotT32 (a : Word) (s : State) : Host.Outcome State Fault Refusal :=
  .next (evalNapotCase a (napotGeneralRegion 32 a) s)

/-- REGION.NAPOT.T33 (R90). -/
def execRegionNapotT33 (a : Word) (s : State) : Host.Outcome State Fault Refusal :=
  .next (evalNapotCase a (napotGeneralRegion 33 a) s)

/-- REGION.NAPOT.T34 (R90). -/
def execRegionNapotT34 (a : Word) (s : State) : Host.Outcome State Fault Refusal :=
  .next (evalNapotCase a (napotGeneralRegion 34 a) s)

/-- REGION.NAPOT.T35 (R90). -/
def execRegionNapotT35 (a : Word) (s : State) : Host.Outcome State Fault Refusal :=
  .next (evalNapotCase a (napotGeneralRegion 35 a) s)

/-- REGION.NAPOT.T36 (R90). -/
def execRegionNapotT36 (a : Word) (s : State) : Host.Outcome State Fault Refusal :=
  .next (evalNapotCase a (napotGeneralRegion 36 a) s)

/-- REGION.NAPOT.T37 (R90). -/
def execRegionNapotT37 (a : Word) (s : State) : Host.Outcome State Fault Refusal :=
  .next (evalNapotCase a (napotGeneralRegion 37 a) s)

/-- REGION.NAPOT.T38 (R90). -/
def execRegionNapotT38 (a : Word) (s : State) : Host.Outcome State Fault Refusal :=
  .next (evalNapotCase a (napotGeneralRegion 38 a) s)

/-- REGION.NAPOT.T39 (R90). -/
def execRegionNapotT39 (a : Word) (s : State) : Host.Outcome State Fault Refusal :=
  .next (evalNapotCase a (napotGeneralRegion 39 a) s)

/-- REGION.NAPOT.T40 (R90). -/
def execRegionNapotT40 (a : Word) (s : State) : Host.Outcome State Fault Refusal :=
  .next (evalNapotCase a (napotGeneralRegion 40 a) s)

/-- REGION.NAPOT.T41 (R90). -/
def execRegionNapotT41 (a : Word) (s : State) : Host.Outcome State Fault Refusal :=
  .next (evalNapotCase a (napotGeneralRegion 41 a) s)

/-- REGION.NAPOT.T42 (R90). -/
def execRegionNapotT42 (a : Word) (s : State) : Host.Outcome State Fault Refusal :=
  .next (evalNapotCase a (napotGeneralRegion 42 a) s)

/-- REGION.NAPOT.T43 (R90). -/
def execRegionNapotT43 (a : Word) (s : State) : Host.Outcome State Fault Refusal :=
  .next (evalNapotCase a (napotGeneralRegion 43 a) s)

/-- REGION.NAPOT.T44 (R90). -/
def execRegionNapotT44 (a : Word) (s : State) : Host.Outcome State Fault Refusal :=
  .next (evalNapotCase a (napotGeneralRegion 44 a) s)

/-- REGION.NAPOT.T45 (R90). -/
def execRegionNapotT45 (a : Word) (s : State) : Host.Outcome State Fault Refusal :=
  .next (evalNapotCase a (napotGeneralRegion 45 a) s)

/-- REGION.NAPOT.T46 (R90). -/
def execRegionNapotT46 (a : Word) (s : State) : Host.Outcome State Fault Refusal :=
  .next (evalNapotCase a (napotGeneralRegion 46 a) s)

/-- REGION.NAPOT.T47 (R90). -/
def execRegionNapotT47 (a : Word) (s : State) : Host.Outcome State Fault Refusal :=
  .next (evalNapotCase a (napotGeneralRegion 47 a) s)

/-- REGION.NAPOT.T48 (R90). -/
def execRegionNapotT48 (a : Word) (s : State) : Host.Outcome State Fault Refusal :=
  .next (evalNapotCase a (napotGeneralRegion 48 a) s)

/-- REGION.NAPOT.T49 (R90). -/
def execRegionNapotT49 (a : Word) (s : State) : Host.Outcome State Fault Refusal :=
  .next (evalNapotCase a (napotGeneralRegion 49 a) s)

/-- REGION.NAPOT.T50 (R90). -/
def execRegionNapotT50 (a : Word) (s : State) : Host.Outcome State Fault Refusal :=
  .next (evalNapotCase a (napotGeneralRegion 50 a) s)

/-- REGION.NAPOT.T51 (R90). -/
def execRegionNapotT51 (a : Word) (s : State) : Host.Outcome State Fault Refusal :=
  .next (evalNapotCase a (napotGeneralRegion 51 a) s)

/-- REGION.NAPOT.T52 (R90). -/
def execRegionNapotT52 (a : Word) (s : State) : Host.Outcome State Fault Refusal :=
  .next (evalNapotCase a (napotGeneralRegion 52 a) s)

/-- REGION.NAPOT.T53 (R90). -/
def execRegionNapotT53 (a : Word) (s : State) : Host.Outcome State Fault Refusal :=
  .next (evalNapotCase a (napotGeneralRegion 53 a) s)

/-- REGION.NAPOT.T54 (R90). -/
def execRegionNapotT54 (a : Word) (s : State) : Host.Outcome State Fault Refusal :=
  .next (evalNapotCase a (napotGeneralRegion 54 a) s)

/-- REGION.NAPOT.T55 (R90). -/
def execRegionNapotT55 (a : Word) (s : State) : Host.Outcome State Fault Refusal :=
  .next (evalNapotCase a (napotGeneralRegion 55 a) s)

/-- REGION.NAPOT.T56 (R90). -/
def execRegionNapotT56 (a : Word) (s : State) : Host.Outcome State Fault Refusal :=
  .next (evalNapotCase a (napotGeneralRegion 56 a) s)

/-- REGION.NAPOT.T57 (R90). -/
def execRegionNapotT57 (a : Word) (s : State) : Host.Outcome State Fault Refusal :=
  .next (evalNapotCase a (napotGeneralRegion 57 a) s)

/-- REGION.NAPOT.T58 (R90). -/
def execRegionNapotT58 (a : Word) (s : State) : Host.Outcome State Fault Refusal :=
  .next (evalNapotCase a (napotGeneralRegion 58 a) s)

/-- REGION.NAPOT.ALL (R89). -/
def execRegionNapotAll (a : Word) (s : State) : Host.Outcome State Fault Refusal :=
  .next (evalNapotCase a napotAllRegion s)

/-- REGION.NAPOT.OVER (R92): the general formula with the register's own count of trailing ones. -/
def execRegionNapotOver (a : Word) (s : State) : Host.Outcome State Fault Refusal :=
  .next (evalNapotCase a (napotGeneralRegion (cto a) a) s)

end Sys2Proof.Machine
end

