-- ==== Sys2Proof/Machine/Resolve.lean ====
section
/-! DEFINITION. The six RESOLVE operations and the two reserved request opcodes (spec/41_resolver.md R117 to R123,
spec/30_encoding.md R64, R70). -/

namespace Sys2Proof.Machine

/-- The request ports of an operation: the code of its access type, and whether the size port counts (R64). -/
def requestPorts (sizeValid : Bool) (code : BitVec 2) (address size : Word) : ReqIn :=
  { reqAddress := address, reqSizeValid := sizeValid, reqSize := size, reqType := code }

/-- RESOLVE.P.R (R118). -/
def execResolvePR (address size : Word) (s : State) : Host.Outcome State Fault Refusal :=
  .next (evalRequest (requestPorts false 0 address size) s)

/-- RESOLVE.P.W (R119). -/
def execResolvePW (address size : Word) (s : State) : Host.Outcome State Fault Refusal :=
  .next (evalRequest (requestPorts false 1 address size) s)

/-- RESOLVE.P.X (R120). -/
def execResolvePX (address size : Word) (s : State) : Host.Outcome State Fault Refusal :=
  .next (evalRequest (requestPorts false 2 address size) s)

/-- RESOLVE.S.R (R121). -/
def execResolveSR (address size : Word) (s : State) : Host.Outcome State Fault Refusal :=
  .next (evalRequest (requestPorts true 0 address size) s)

/-- RESOLVE.S.W (R122). -/
def execResolveSW (address size : Word) (s : State) : Host.Outcome State Fault Refusal :=
  .next (evalRequest (requestPorts true 1 address size) s)

/-- RESOLVE.S.X (R123). -/
def execResolveSX (address size : Word) (s : State) : Host.Outcome State Fault Refusal :=
  .next (evalRequest (requestPorts true 2 address size) s)

/-- RESERVED.P.3 (R70): `err` is driven, and nothing is tested. -/
def execReservedP3 (address size : Word) (s : State) : Host.Outcome State Fault Refusal :=
  .next (evalRequest (requestPorts false 3 address size) s)

/-- RESERVED.S.3 (R70): `err` is driven, and nothing is tested. -/
def execReservedS3 (address size : Word) (s : State) : Host.Outcome State Fault Refusal :=
  .next (evalRequest (requestPorts true 3 address size) s)

end Sys2Proof.Machine
end

