-- ==== Sys2Proof/Machine/Dispatch.lean ====
section
/-! DEFINITION. One arm per operation. -/

namespace Sys2Proof.Machine

def exec (i : Instr) (s : State) : Host.Outcome State Fault Refusal :=
  match i with
  | .perm cfg => Sys2Proof.Machine.execPerm cfg s
  | .regionOff d => Sys2Proof.Machine.execRegionOff d s
  | .regionTor d => Sys2Proof.Machine.execRegionTor d s
  | .regionNa4 d => Sys2Proof.Machine.execRegionNa4 d s
  | .regionNapot d => Sys2Proof.Machine.execRegionNapot d s
  | .regionNapotFallback a => Sys2Proof.Machine.execRegionNapotFallback a s
  | .regionNapotT1 a => Sys2Proof.Machine.execRegionNapotT1 a s
  | .regionNapotT2 a => Sys2Proof.Machine.execRegionNapotT2 a s
  | .regionNapotT3 a => Sys2Proof.Machine.execRegionNapotT3 a s
  | .regionNapotT4 a => Sys2Proof.Machine.execRegionNapotT4 a s
  | .regionNapotT5 a => Sys2Proof.Machine.execRegionNapotT5 a s
  | .regionNapotT6 a => Sys2Proof.Machine.execRegionNapotT6 a s
  | .regionNapotT7 a => Sys2Proof.Machine.execRegionNapotT7 a s
  | .regionNapotT8 a => Sys2Proof.Machine.execRegionNapotT8 a s
  | .regionNapotT9 a => Sys2Proof.Machine.execRegionNapotT9 a s
  | .regionNapotT10 a => Sys2Proof.Machine.execRegionNapotT10 a s
  | .regionNapotT11 a => Sys2Proof.Machine.execRegionNapotT11 a s
  | .regionNapotT12 a => Sys2Proof.Machine.execRegionNapotT12 a s
  | .regionNapotT13 a => Sys2Proof.Machine.execRegionNapotT13 a s
  | .regionNapotT14 a => Sys2Proof.Machine.execRegionNapotT14 a s
  | .regionNapotT15 a => Sys2Proof.Machine.execRegionNapotT15 a s
  | .regionNapotT16 a => Sys2Proof.Machine.execRegionNapotT16 a s
  | .regionNapotT17 a => Sys2Proof.Machine.execRegionNapotT17 a s
  | .regionNapotT18 a => Sys2Proof.Machine.execRegionNapotT18 a s
  | .regionNapotT19 a => Sys2Proof.Machine.execRegionNapotT19 a s
  | .regionNapotT20 a => Sys2Proof.Machine.execRegionNapotT20 a s
  | .regionNapotT21 a => Sys2Proof.Machine.execRegionNapotT21 a s
  | .regionNapotT22 a => Sys2Proof.Machine.execRegionNapotT22 a s
  | .regionNapotT23 a => Sys2Proof.Machine.execRegionNapotT23 a s
  | .regionNapotT24 a => Sys2Proof.Machine.execRegionNapotT24 a s
  | .regionNapotT25 a => Sys2Proof.Machine.execRegionNapotT25 a s
  | .regionNapotT26 a => Sys2Proof.Machine.execRegionNapotT26 a s
  | .regionNapotT27 a => Sys2Proof.Machine.execRegionNapotT27 a s
  | .regionNapotT28 a => Sys2Proof.Machine.execRegionNapotT28 a s
  | .regionNapotT29 a => Sys2Proof.Machine.execRegionNapotT29 a s
  | .regionNapotT30 a => Sys2Proof.Machine.execRegionNapotT30 a s
  | .regionNapotT31 a => Sys2Proof.Machine.execRegionNapotT31 a s
  | .regionNapotT32 a => Sys2Proof.Machine.execRegionNapotT32 a s
  | .regionNapotT33 a => Sys2Proof.Machine.execRegionNapotT33 a s
  | .regionNapotT34 a => Sys2Proof.Machine.execRegionNapotT34 a s
  | .regionNapotT35 a => Sys2Proof.Machine.execRegionNapotT35 a s
  | .regionNapotT36 a => Sys2Proof.Machine.execRegionNapotT36 a s
  | .regionNapotT37 a => Sys2Proof.Machine.execRegionNapotT37 a s
  | .regionNapotT38 a => Sys2Proof.Machine.execRegionNapotT38 a s
  | .regionNapotT39 a => Sys2Proof.Machine.execRegionNapotT39 a s
  | .regionNapotT40 a => Sys2Proof.Machine.execRegionNapotT40 a s
  | .regionNapotT41 a => Sys2Proof.Machine.execRegionNapotT41 a s
  | .regionNapotT42 a => Sys2Proof.Machine.execRegionNapotT42 a s
  | .regionNapotT43 a => Sys2Proof.Machine.execRegionNapotT43 a s
  | .regionNapotT44 a => Sys2Proof.Machine.execRegionNapotT44 a s
  | .regionNapotT45 a => Sys2Proof.Machine.execRegionNapotT45 a s
  | .regionNapotT46 a => Sys2Proof.Machine.execRegionNapotT46 a s
  | .regionNapotT47 a => Sys2Proof.Machine.execRegionNapotT47 a s
  | .regionNapotT48 a => Sys2Proof.Machine.execRegionNapotT48 a s
  | .regionNapotT49 a => Sys2Proof.Machine.execRegionNapotT49 a s
  | .regionNapotT50 a => Sys2Proof.Machine.execRegionNapotT50 a s
  | .regionNapotT51 a => Sys2Proof.Machine.execRegionNapotT51 a s
  | .regionNapotT52 a => Sys2Proof.Machine.execRegionNapotT52 a s
  | .regionNapotT53 a => Sys2Proof.Machine.execRegionNapotT53 a s
  | .regionNapotT54 a => Sys2Proof.Machine.execRegionNapotT54 a s
  | .regionNapotT55 a => Sys2Proof.Machine.execRegionNapotT55 a s
  | .regionNapotT56 a => Sys2Proof.Machine.execRegionNapotT56 a s
  | .regionNapotT57 a => Sys2Proof.Machine.execRegionNapotT57 a s
  | .regionNapotT58 a => Sys2Proof.Machine.execRegionNapotT58 a s
  | .regionNapotAll a => Sys2Proof.Machine.execRegionNapotAll a s
  | .regionNapotOver a => Sys2Proof.Machine.execRegionNapotOver a s
  | .decodeEntry d => Sys2Proof.Machine.execDecodeEntry d s
  | .decodeAll table => Sys2Proof.Machine.execDecodeAll table s
  | .resolvePR address size => Sys2Proof.Machine.execResolvePR address size s
  | .resolvePW address size => Sys2Proof.Machine.execResolvePW address size s
  | .resolvePX address size => Sys2Proof.Machine.execResolvePX address size s
  | .resolveSR address size => Sys2Proof.Machine.execResolveSR address size s
  | .resolveSW address size => Sys2Proof.Machine.execResolveSW address size s
  | .resolveSX address size => Sys2Proof.Machine.execResolveSX address size s
  | .reservedP3 address size => Sys2Proof.Machine.execReservedP3 address size s
  | .reservedS3 address size => Sys2Proof.Machine.execReservedS3 address size s

end Sys2Proof.Machine
end

