-- ==== Sys2Proof/Machine/Step.lean ====
section
/-! DEFINITION. One step: one evaluation of one presented operation (spec/70_reset_and_hazards.md R167, R172). -/

namespace Sys2Proof.Machine

/-- Take the word presented next, decode it, evaluate it. With nothing presented there is no request, and the
block decodes the table that stands; no input changes (spec/90_conflicts.md C8; log 3). -/
def step (s : State) : Host.Outcome State Fault Refusal :=
  match fetch s with
  | none => exec (.decodeAll s.table) s
  | some (o, s') =>
    match decode o with
    | .ok i => exec i s'
    | .error e => .refused (.notAnOperation e)

/-- The opcode-table word is the operation presented next (log 2, log 5). -/
def State.withFetchWord (s : State) (nbits w : Nat) : State :=
  match tableWord nbits w with
  | some o => present o s
  | none => s

end Sys2Proof.Machine
end

