-- ==== Sys2Proof/Safety.lean ====
section
/-! DEFINITION. What a caller may rely on after an evaluation, in the spec's own arithmetic: the words the statements
are made of, and the invariant every step keeps. -/

namespace Sys2Proof.Machine

/-! ### The decoder's ports -/

/-- The five flag outputs are the bits of the configuration byte that R60 and R80 name. -/
abbrev FlagBits (f : Flags) (cfg : Byte) : Prop :=
  f.readable = cfg.getLsbD 0 ∧ f.writable = cfg.getLsbD 1 ∧ f.executable = cfg.getLsbD 2 ∧
    f.locked = cfg.getLsbD 7 ∧ f.mode.code = cfg.extractLsb' 3 2

/-- The decoder's outputs show the exact region from `s` to `e` (R95): `range_err` says exactly that a bound exceeds
`2^64 - 1`, and when it is 0 the ports carry the bounds. Of the ports when it is 1 nothing is said. -/
abbrev Shows (o : DecOut) (s e : Nat) : Prop :=
  o.region = ⟨s, e⟩ ∧ (o.rangeErr = true ↔ s > 2 ^ 64 - 1 ∨ e > 2 ^ 64 - 1) ∧
    (o.rangeErr = false → o.start.toNat = s ∧ o.endPort.toNat = e)

/-! ### A table and a request -/

/-- The previous entry's raw register: none at index 0 (R84, R97). -/
def prevOf (table : List Entry) (k : Nat) : Option Word :=
  if k = 0 then none else (table[k - 1]?).map (·.a)

/-- The exact region of entry `e` standing at index `k` (R97's closed form). -/
def entryRegion (table : List Entry) (k : Nat) (e : Entry) : Region :=
  regionOf (modeOf e.cfg) (prevOf table k) e.a

/-- The region contains the access: R110, R111 and R112 in one formula. -/
abbrev Covers (r : Region) (q : ReqIn) : Prop :=
  r ≠ ⟨0, 0⟩ ∧ r.s ≤ q.reqAddress.toNat ∧
    (if q.reqSizeValid then q.reqAddress.toNat + q.reqSize.toNat ≤ r.e else q.reqAddress.toNat < r.e)

/-- The request's last byte is an address (R47). -/
abbrev InSpace (q : ReqIn) : Prop :=
  q.reqSizeValid = true → q.reqAddress.toNat + q.reqSize.toNat ≤ 2 ^ 64

/-- Every entry's exact region fits 64 bits, so that no entry has `range_err` (R143). -/
def TableFits (table : List Entry) : Prop :=
  ∀ k e, table[k]? = some e → (entryRegion table k e).s ≤ 2 ^ 64 - 1 ∧ (entryRegion table k e).e ≤ 2 ^ 64 - 1

/-- The operation of a request opcode, by `req_size_valid` and `req_type` (R64). -/
def requestOp (sizeValid : Bool) (code : BitVec 2) (address size : Word) : Instr :=
  match sizeValid, code.toNat with
  | false, 0 => .resolvePR address size
  | false, 1 => .resolvePW address size
  | false, 2 => .resolvePX address size
  | false, _ => .reservedP3 address size
  | true, 0 => .resolveSR address size
  | true, 1 => .resolveSW address size
  | true, 2 => .resolveSX address size
  | true, _ => .reservedS3 address size

/-! ### Frames -/

/-- What an operation on the decoder's ports leaves: the table, the request, the policy and what is presented next,
and on the resolver's outputs the function of that table and request. -/
abbrev DecoderFrame (s t : State) : Prop :=
  t.table = s.table ∧ t.req = s.req ∧ t.policy = s.policy ∧ t.program = s.program ∧ t.tick = s.tick + 1 ∧
    t.ent = decodeTable t.tick t.table ∧ t.res = resolve t.policy t.tick t.table t.req

/-- What a request leaves: the table, the decoder's inputs, the policy and what is presented next, and on the
decoder's outputs the function of those inputs. -/
abbrev ResolverFrame (s t : State) : Prop :=
  t.table = s.table ∧ t.decIn = s.decIn ∧ t.policy = s.policy ∧ t.program = s.program ∧ t.tick = s.tick + 1 ∧
    t.decOut = decodePorts t.tick .alone t.decIn

/-- The frame of a NAPOT sub-case on `a`: of the decoder's inputs the address register becomes `a` and field A of the
byte NAPOT (log 22), the flags are that byte's, and the rest is the decoder's frame. -/
abbrev SubcaseFrame (a : Word) (s t : State) : Prop :=
  t.decIn = { s.decIn with addressRegister := a, configByte := s.decIn.configByte ||| 0x18 } ∧
    FlagBits t.decOut.flags (s.decIn.configByte ||| 0x18) ∧ t.decOut.flags.mode = .napot ∧ DecoderFrame s t

/-- The per-entry outputs are those of the table (R97, R95). -/
def EntryOutputs (table : List Entry) (ent : List DecOut) : Prop :=
  ent.length = table.length ∧
    ∀ k e, table[k]? = some e → ∃ o, ent[k]? = some o ∧ FlagBits o.flags e.cfg ∧
      Shows o (entryRegion table k e).s (entryRegion table k e).e

/-! ### The invariant -/

/-- Every output port is the function of the inputs that stand now (R33). -/
structure OutputsOfInputs (s : State) : Prop where
  /-- The decoder's outputs are DECODE of its ports (R94, R95). -/
  decoder : s.decOut = decodePorts s.tick .alone s.decIn
  /-- The per-entry outputs are DECODE_ALL of the table (R97). -/
  entries : s.ent = decodeTable s.tick s.table
  /-- The result is RESOLVE of the request on the table (R117). -/
  result : s.res = resolve s.policy s.tick s.table s.req

/-- A result without `err` is a grant, a denial or a no match, with the outputs R116 and R125 give it. -/
def ResultForm (policy : NoMatchPolicy) (r : ResOut) : Prop :=
  r.err = false →
    if r.hit then r.accessOk = r.grant ∧ (r.grant = true ↔ r.permSet ≠ 0)
    else r.matchIndex = 0 ∧ r.grant = false ∧ r.permSet = 0 ∧ (r.accessOk = true ↔ policy = .allow)

/-- What holds of the ports after reset and after every step. -/
structure Inv (s : State) : Prop where
  /-- Every output is the function of the inputs (R33). -/
  outputs : OutputsOfInputs s
  /-- Flags never drift from the configuration byte (R28). -/
  flags : FlagBits s.decOut.flags s.decIn.configByte
  /-- The bound ports are the exact region of the decoder's ports, narrowed (R94, R95). -/
  bounds : Shows s.decOut (regionOfPorts s.decIn).s (regionOfPorts s.decIn).e
  /-- The per-entry outputs are those of the presented table (R97). -/
  entries : EntryOutputs s.table s.ent
  /-- `err` is up exactly while the presented request or table is outside the legal domain (R145). -/
  errors : s.res.err = true ↔ s.req.reqType = 3 ∨ ¬ InSpace s.req ∨ ¬ TableFits s.table
  /-- The result is one of the three of R116, or an input error. -/
  result : ResultForm s.policy s.res

end Sys2Proof.Machine
end

