-- ==== Sys2Proof/Certificates/Slice0/Obligations.lean ====
section
/-! DEFINITION. The statements for the provers. Each docstring names the rule of spec/ it formalises. -/

open Sys2Proof Sys2Proof.Machine

/-! ### The flags -/

/-- R80's flags: PERM drives the five flags from the byte it is given. Of the inputs the byte alone changes, and the
bounds are those of the byte now presented and the registers that stand (R33, R94; that PERM presents nothing else is
the model's reading, log 23). -/
def Obligations.PermExtractsTheFlagBits : Prop :=
  ∀ (cfg : Byte) (s : State), ∃ t, exec (.perm cfg) s = .next t ∧
    FlagBits t.decOut.flags cfg ∧ t.decIn = { s.decIn with configByte := cfg } ∧
    Shows t.decOut (regionOfPorts t.decIn).s (regionOfPorts t.decIn).e ∧ DecoderFrame s t

/-- R81. Bits 6 and 5 of the byte change no flag and no region, of an entry or of a table. That two evaluations of one
tick show one value on an unspecified bound port is the model's choice (log 7, DESIGN CHOICE). -/
def Obligations.Bits6And5AreIgnored : Prop :=
  (∀ (cfg : Byte) (s t u : State), exec (.perm cfg) s = .next t → exec (.perm (cfg &&& 0x9F)) s = .next u →
    t.decOut = u.decOut) ∧
  (∀ (d : DecIn) (s t u : State), exec (.decodeEntry d) s = .next t →
    exec (.decodeEntry { d with configByte := d.configByte &&& 0x9F }) s = .next u → t.decOut = u.decOut) ∧
  (∀ (E : List Entry) (s t u : State), exec (.decodeAll E) s = .next t →
    exec (.decodeAll (E.map fun e => { e with cfg := e.cfg &&& 0x9F })) s = .next u → t.ent = u.ent)

/-! ### The region rules -/

/-- R85. REGION.OFF gives (0, 0) whatever the registers and the byte's other bits, and never `range_err`. R85 writes no
flag beyond PERM: that the operation drives the byte's flags is the model's reading (log 14, DEDUCED), and so is that
it narrows its region to the ports (log 15, DEDUCED). -/
def Obligations.RegionOffIsNoRegion : Prop :=
  ∀ (d : DecIn) (s : State), WellFormed (.regionOff d) → ∃ t, exec (.regionOff d) s = .next t ∧
    Shows t.decOut 0 0 ∧ t.decOut.rangeErr = false ∧ FlagBits t.decOut.flags d.configByte ∧
    t.decIn = d ∧ DecoderFrame s t

/-- R86. REGION.TOR runs from the previous raw register, 0 without one, to this register, both times 4, reported as
computed also when it is empty or inverted. That the operation drives the byte's flags is the model's reading (log 14,
DEDUCED), and so is that it narrows its region to the ports (log 15, DEDUCED). -/
def Obligations.RegionTorRunsFromPreviousRegister : Prop :=
  ∀ (d : DecIn) (s : State), WellFormed (.regionTor d) → ∃ t, exec (.regionTor d) s = .next t ∧
    Shows t.decOut (if d.prevValid then d.prevAddressRegister.toNat * 4 else 0) (d.addressRegister.toNat * 4) ∧
    (t.decOut.rangeErr = true ↔
      2 ^ 62 ≤ d.addressRegister.toNat ∨ (d.prevValid = true ∧ 2 ^ 62 ≤ d.prevAddressRegister.toNat)) ∧
    FlagBits t.decOut.flags d.configByte ∧ t.decIn = d ∧ DecoderFrame s t

/-- R87. REGION.NA4 is the 4 bytes at the register times 4, whatever the previous register. That the operation drives
the byte's flags is the model's reading (log 14, DEDUCED), and so is that it narrows its region to the ports (log 15,
DEDUCED). -/
def Obligations.RegionNa4IsFourBytes : Prop :=
  ∀ (d : DecIn) (s : State), WellFormed (.regionNa4 d) → ∃ t, exec (.regionNa4 d) s = .next t ∧
    Shows t.decOut (d.addressRegister.toNat * 4) (d.addressRegister.toNat * 4 + 4) ∧
    (t.decOut.rangeErr = true ↔ 2 ^ 62 - 1 ≤ d.addressRegister.toNat) ∧
    FlagBits t.decOut.flags d.configByte ∧ t.decIn = d ∧ DecoderFrame s t

/-- R88. REGION.NAPOT counts the trailing ones `c` of the register and takes the whole space when `c + 5 = 64`, the
4-byte fallback when `c = 0` and the general formula otherwise; the previous register is not read. That the operation
drives the byte's flags is the model's reading (log 14, DEDUCED), and so is that it narrows its region to the ports
(log 15, DEDUCED). -/
def Obligations.RegionNapotDispatchesOnTrailingOnes : Prop :=
  ∀ (d : DecIn) (s : State) (c : Nat), WellFormed (.regionNapot d) → c = cto d.addressRegister →
    ∃ t, exec (.regionNapot d) s = .next t ∧
    (c + 5 = 64 → Shows t.decOut 0 (2 ^ 64 - 1)) ∧
    (c = 0 → Shows t.decOut (d.addressRegister.toNat * 4) (d.addressRegister.toNat * 4 + 4)) ∧
    (c ≠ 0 → c + 5 ≠ 64 →
      Shows t.decOut (d.addressRegister.toNat / 2 ^ c * 2 ^ (c + 2))
        (d.addressRegister.toNat / 2 ^ c * 2 ^ (c + 2) + 2 ^ (c + 5))) ∧
    FlagBits t.decOut.flags d.configByte ∧ t.decIn = d ∧ DecoderFrame s t

/-- R10, `cto`: the count is at most 64, that many low bits are ones, and no larger count up to 64 has that. -/
def Obligations.CtoIsTheLargestRunOfLowOnes : Prop :=
  ∀ v : Word, cto v ≤ 64 ∧ v.toNat % 2 ^ cto v = 2 ^ cto v - 1 ∧
    ∀ t, t ≤ 64 → v.toNat % 2 ^ t = 2 ^ t - 1 → t ≤ cto v

/-- R90 (with R92's registers). For `c` trailing ones, `c` neither 0 nor 59, the ADDR row of `c` (REGION.NAPOT.T1 to
T58, and OVER from 60 on) gives the region at the register with its ones cleared, times 4, of `2^(c+5)` bytes. The base
is a multiple of `2^(c+3)`, and of the size exactly when the two bits above the zero bit are 0. The frame is the model's
choice: a sub-case presents its register in an entry of mode NAPOT and the other ports as they are (log 22, DESIGN
CHOICE) and narrows its region to the ports (log 15, DEDUCED); from 60 on it completes by log 6 (DESIGN CHOICE). -/
def Obligations.NapotGeneralCaseRegion : Prop :=
  ∀ (a : Word) (s : State) (c : Nat), c = cto a → c ≠ 0 → c ≠ 59 →
    ∃ t base, exec (Instr.napotByCount c a) s = .next t ∧
    base = a.toNat / 2 ^ c * 2 ^ (c + 2) ∧ base = (a.toNat - (2 ^ c - 1)) * 4 ∧
    Shows t.decOut base (base + 2 ^ (c + 5)) ∧ SubcaseFrame a s t ∧
    (c < 64 → a.getLsbD c = false) ∧ 2 ^ (c + 3) ∣ base ∧
    (2 ^ (c + 5) ∣ base ↔ a.getLsbD (c + 1) = false ∧ a.getLsbD (c + 2) = false)

/-- R63 and R90 row by row: every row T1 to T58, on every register of its pattern, completes with the region of its own
count. The frame is the model's choice (log 22, DESIGN CHOICE; log 15, DEDUCED). -/
def Obligations.EveryNapotRowCompletes : Prop :=
  ∀ (k : Nat) (a : Word) (s : State), 1 ≤ k → k ≤ 58 → WellFormed (Instr.napotByCount k a) →
    ∃ t, exec (Instr.napotByCount k a) s = .next t ∧
    Shows t.decOut (a.toNat / 2 ^ k * 2 ^ (k + 2)) (a.toNat / 2 ^ k * 2 ^ (k + 2) + 2 ^ (k + 5)) ∧
    SubcaseFrame a s t

/-- R89. The whole-space row gives (0, 2^64 - 1) without `range_err` whatever bits 63:60 are; the top byte is outside
it, a sized access must end at 2^64 - 1 at the latest, and no architected register selects it. The frame is the model's
choice (log 22, DESIGN CHOICE; log 15, DEDUCED). -/
def Obligations.NapotWholeSpaceRegion : Prop :=
  ∀ (a : Word) (s : State), WellFormed (.regionNapotAll a) → ∃ t, exec (.regionNapotAll a) s = .next t ∧
    Shows t.decOut 0 (2 ^ 64 - 1) ∧ t.decOut.rangeErr = false ∧ SubcaseFrame a s t ∧
    (∀ q : ReqIn, q.reqSizeValid = false → (contains t.decOut.region q = true ↔ q.reqAddress.toNat ≠ 2 ^ 64 - 1)) ∧
    (∀ q : ReqIn, q.reqSizeValid = true →
      (contains t.decOut.region q = true ↔ q.reqAddress.toNat + q.reqSize.toNat ≤ 2 ^ 64 - 1)) ∧
    2 ^ 54 ≤ a.toNat

/-- R91. The fallback row is the 4 bytes at the register times 4, with the outputs REGION.NA4 gives the register, except
that `matching_mode` reports 3. That a sub-case is presented in an entry of mode NAPOT, and the rest of its frame, is
the model's choice (log 22, DESIGN CHOICE; log 15, DEDUCED), and so is the equality of unspecified bound ports (log 7,
DESIGN CHOICE). -/
def Obligations.NapotFallbackRegion : Prop :=
  ∀ (a : Word) (s : State), WellFormed (.regionNapotFallback a) → ∃ t, exec (.regionNapotFallback a) s = .next t ∧
    Shows t.decOut (a.toNat * 4) (a.toNat * 4 + 4) ∧ (t.decOut.rangeErr = true ↔ 2 ^ 62 ≤ a.toNat) ∧
    SubcaseFrame a s t ∧
    ∀ (d : DecIn) (u : State), d.addressRegister = a → exec (.regionNa4 d) s = .next u →
      u.decOut = { t.decOut with flags := u.decOut.flags }

/-- R92. From 60 trailing ones on the region is the general formula's, exact, of at least 2^65 bytes, and `range_err` is
always 1; the all-ones register has the exact region (0, 2^69). R92 asks a model to treat these inputs as refused: that
the row completes, with the bound ports free, is the model's choice (log 6, DESIGN CHOICE), and so is the frame (log 22,
DESIGN CHOICE; log 15, DEDUCED). -/
def Obligations.NapotOverAlwaysRangeErr : Prop :=
  ∀ (a : Word) (s : State), WellFormed (.regionNapotOver a) → ∃ t, exec (.regionNapotOver a) s = .next t ∧
    Shows t.decOut (a.toNat / 2 ^ cto a * 2 ^ (cto a + 2)) (a.toNat / 2 ^ cto a * 2 ^ (cto a + 2) + 2 ^ (cto a + 5)) ∧
    2 ^ 65 ≤ 2 ^ (cto a + 5) ∧ t.decOut.rangeErr = true ∧
    (a.toNat = 2 ^ 64 - 1 → t.decOut.region = ⟨0, 2 ^ 69⟩) ∧ SubcaseFrame a s t

/-- R88 as a refinement: REGION.NAPOT shows what the ADDR row of the register shows, flags apart; the row's flags are
those of the byte that stands, in mode NAPOT (log 22, DESIGN CHOICE). That unspecified bound ports agree too is the
model's choice (log 7, DESIGN CHOICE). -/
def Obligations.NapotAgreesWithItsSubcase : Prop :=
  ∀ (d : DecIn) (s t u : State), exec (.regionNapot d) s = .next t →
    exec (decodeNapot d.addressRegister) s = .next u →
    u.decOut = { t.decOut with flags := u.decOut.flags } ∧ FlagBits u.decOut.flags (s.decIn.configByte ||| 0x18) ∧
    u.decOut.flags.mode = .napot

/-- R93 (c) and (d) as restated: a NAPOT size is 4, a power of two from 64 on, or the whole space's 2^64 - 1; outside the
whole space the start is a multiple of a quarter of the size. -/
def Obligations.NapotSizesAndAlignment : Prop :=
  ∀ (d : DecIn) (s t : State), exec (.regionNapot d) s = .next t →
    (t.decOut.region = ⟨0, 2 ^ 64 - 1⟩ ∧ cto d.addressRegister = 59) ∨
    ∃ n, (n = 2 ∨ 6 ≤ n) ∧ t.decOut.region.e = t.decOut.region.s + 2 ^ n ∧ 2 ^ (n - 2) ∣ t.decOut.region.s

/-- R44. Every bound but the whole space's end is a multiple of 4. -/
def Obligations.BoundsAreWordAligned : Prop :=
  ∀ (d : DecIn) (s t : State), exec (.decodeEntry d) s = .next t →
    4 ∣ t.decOut.region.s ∧ (4 ∣ t.decOut.region.e ∨ t.decOut.region = ⟨0, 2 ^ 64 - 1⟩)

/-! ### DECODE and DECODE_ALL -/

/-- R94, R95. DECODE drives the flags of the byte and the bounds of the region operation its field A selects, narrowed
to the ports: on the same ports it does what that operation does, and no operation of another mode is selected. That its
next state is the region operation's own rests on the model's readings that a region operation drives the byte's flags
(log 14, DEDUCED) and narrows to the ports (log 15, DEDUCED), and on its choice that two evaluations of one tick show
one value on an unspecified bound port (log 7, DESIGN CHOICE). -/
def Obligations.DecodeIsThePermAndTheSelectedRegion : Prop :=
  ∀ (d : DecIn) (s : State), ∃ t, exec (.decodeEntry d) s = .next t ∧ exec (decodeRegion d) s = .next t ∧
    WellFormed (decodeRegion d) ∧ FlagBits t.decOut.flags d.configByte ∧
    Shows t.decOut t.decOut.region.s t.decOut.region.e ∧ t.decIn = d ∧ DecoderFrame s t

/-- R96. In the architected domain `range_err` is 0, so the ports carry the exact bounds. -/
def Obligations.ArchitectedEntryNeverRangeErrs : Prop :=
  ∀ (d : DecIn) (s : State), d.addressRegister.toNat < 2 ^ 54 →
    (d.prevValid = true → d.prevAddressRegister.toNat < 2 ^ 54) →
    ∃ t, exec (.decodeEntry d) s = .next t ∧ t.decOut.rangeErr = false ∧
      t.decOut.start.toNat = t.decOut.region.s ∧ t.decOut.endPort.toNat = t.decOut.region.e

/-- R97. DECODE_ALL gives one output set per entry, in order, each the decode of its own pair with the raw register of
the entry before it; index 0 has none. That it presents the table it decodes, so that the result ports follow that table
and the request that stands, is the model's choice (log 18, DESIGN CHOICE). -/
def Obligations.DecodeAllThreadsTheRawRegister : Prop :=
  ∀ (E : List Entry) (s : State), ∃ t, exec (.decodeAll E) s = .next t ∧ EntryOutputs E t.ent ∧
    t = { s with table := E, decOut := t.decOut, ent := t.ent, res := t.res, tick := s.tick + 1 } ∧ OutputsOfInputs t

/-- R84, R168, R169. An entry's region depends on its own pair and on the register, not the byte, of the entry before.
That unspecified bound ports agree too is the model's choice (log 7, DESIGN CHOICE). -/
def Obligations.NeighboursByteDoesNotMatter : Prop :=
  ∀ (E F : List Entry) (s t u : State) (k : Nat) (x y : DecOut), E.map (·.a) = F.map (·.a) → E[k]? = F[k]? →
    exec (.decodeAll E) s = .next t → exec (.decodeAll F) s = .next u →
    t.ent[k]? = some x → u.ent[k]? = some y → x = y

/-- R73. Each pseudo-form's register, in its mode, decodes to the region the pseudo-form names, for every `B` of the
stated condition whose `B >> 2` a register can hold. -/
def Obligations.PseudoFormsDecodeToTheirRegions : Prop :=
  (∀ (B : Nat) (d : DecIn) (s t : State), 4 ∣ B → B >>> 2 < 2 ^ 64 → modeOf d.configByte = .tor →
    d.addressRegister = BitVec.ofNat 64 (B >>> 2) → exec (.decodeEntry d) s = .next t → t.decOut.region.e = B) ∧
  (∀ (B : Nat) (d : DecIn) (s t : State), 4 ∣ B → B >>> 2 < 2 ^ 64 → modeOf d.configByte = .na4 →
    d.addressRegister = BitVec.ofNat 64 (B >>> 2) → exec (.decodeEntry d) s = .next t →
    t.decOut.region = ⟨B, B + 4⟩) ∧
  (∀ (B e : Nat) (d : DecIn) (s t : State), 6 ≤ e → e ≤ 63 → 2 ^ (e - 2) ∣ B → B + 2 ^ e ≤ 2 ^ 64 - 1 →
    modeOf d.configByte = .napot → d.addressRegister = BitVec.ofNat 64 ((B >>> 2) ||| (2 ^ (e - 5) - 1)) →
    exec (.decodeEntry d) s = .next t → Shows t.decOut B (B + 2 ^ e)) ∧
  (∀ (d : DecIn) (s t : State), modeOf d.configByte = .napot → d.addressRegister = BitVec.ofNat 64 (2 ^ 59 - 1) →
    exec (.decodeEntry d) s = .next t → Shows t.decOut 0 (2 ^ 64 - 1))

/-! ### Containment -/

/-- R110, R111, R112, R113. A region contains an access exactly when it is not (0, 0), starts at or below it, and, for a
point, ends above it, for a size, ends at or above its end, in exact arithmetic, also for size 0. -/
def Obligations.ContainmentIsAllOrNothing : Prop :=
  (∀ (r : Region) (q : ReqIn), contains r q = true ↔ Covers r q) ∧
  (∀ (r : Region) (q : ReqIn), q.reqSizeValid = true → q.reqSize.toNat = 1 →
    contains r q = contains r { q with reqSizeValid := false }) ∧
  (∀ (r : Region) (q : ReqIn), q.reqSizeValid = true → 2 ≤ q.reqSize.toNat → q.reqAddress.toNat + 1 = r.e →
    contains r q = false) ∧
  (∀ (r : Region) (q : ReqIn), q.reqSizeValid = true → q.reqSize.toNat = 0 → q.reqAddress.toNat = r.e → r.s ≤ r.e →
    (contains r q = true ↔ r ≠ ⟨0, 0⟩))

/-! ### The resolver -/

/-- R114, R115, R116. On a legal request and a table that fits, each of the six RESOLVE operations completes with the
first containing entry's index and a grant with that entry's full set, or a denial with the empty set, as the entry's
tested bit says, or with no match; no later entry enters. -/
def Obligations.ResolveReportsTheFirstContainingEntry : Prop :=
  ∀ (sv : Bool) (ty : BitVec 2) (A n : Word) (s : State), ty ≠ 3 → InSpace (requestPorts sv ty A n) →
    TableFits s.table →
    ∃ t, exec (requestOp sv ty A n) s = .next t ∧ t.res.err = false ∧
      ((∃ k e, s.table[k]? = some e ∧ Covers (entryRegion s.table k e) (requestPorts sv ty A n) ∧
          (∀ j f, j < k → s.table[j]? = some f →
            ¬ Covers (entryRegion s.table j f) (requestPorts sv ty A n)) ∧
          t.res.hit = true ∧ t.res.matchIndex = k ∧ t.res.grant = e.cfg.getLsbD ty.toNat ∧
          t.res.permSet = if e.cfg.getLsbD ty.toNat then e.cfg.extractLsb' 0 3 else 0) ∨
       ((∀ k e, s.table[k]? = some e → ¬ Covers (entryRegion s.table k e) (requestPorts sv ty A n)) ∧
          t.res.hit = false ∧ t.res.matchIndex = 0 ∧ t.res.grant = false ∧ t.res.permSet = 0))

/-- R118 to R123, and the frame of a request. Each RESOLVE operation is the common algorithm on its own type and size
presence, with `err` only from an entry and, when sized, from an access past the space. The frame, that it presents the
request ports and nothing else, is the model's (log 21, DEDUCED), and that an evaluation with `err = 1` completes is its
choice (log 6, DESIGN CHOICE). -/
def Obligations.ResolveOperationsAndTheirFrame : Prop :=
  ∀ (A n : Word) (s : State),
    (∃ t, exec (.resolvePR A n) s = .next t ∧ t.req = ⟨A, false, n, 0⟩ ∧
      t.res = resolve s.policy t.tick s.table ⟨A, false, n, 0⟩ ∧ (t.res.err = true ↔ ¬ TableFits s.table) ∧
      ResolverFrame s t ∧ EntryOutputs s.table t.ent) ∧
    (∃ t, exec (.resolvePW A n) s = .next t ∧ t.req = ⟨A, false, n, 1⟩ ∧
      t.res = resolve s.policy t.tick s.table ⟨A, false, n, 1⟩ ∧ (t.res.err = true ↔ ¬ TableFits s.table) ∧
      ResolverFrame s t ∧ EntryOutputs s.table t.ent) ∧
    (∃ t, exec (.resolvePX A n) s = .next t ∧ t.req = ⟨A, false, n, 2⟩ ∧
      t.res = resolve s.policy t.tick s.table ⟨A, false, n, 2⟩ ∧ (t.res.err = true ↔ ¬ TableFits s.table) ∧
      ResolverFrame s t ∧ EntryOutputs s.table t.ent) ∧
    (∃ t, exec (.resolveSR A n) s = .next t ∧ t.req = ⟨A, true, n, 0⟩ ∧
      t.res = resolve s.policy t.tick s.table ⟨A, true, n, 0⟩ ∧ (t.res.err = true ↔ A.toNat + n.toNat > 2 ^ 64 ∨ ¬ TableFits s.table) ∧
      ResolverFrame s t ∧ EntryOutputs s.table t.ent) ∧
    (∃ t, exec (.resolveSW A n) s = .next t ∧ t.req = ⟨A, true, n, 1⟩ ∧
      t.res = resolve s.policy t.tick s.table ⟨A, true, n, 1⟩ ∧ (t.res.err = true ↔ A.toNat + n.toNat > 2 ^ 64 ∨ ¬ TableFits s.table) ∧
      ResolverFrame s t ∧ EntryOutputs s.table t.ent) ∧
    (∃ t, exec (.resolveSX A n) s = .next t ∧ t.req = ⟨A, true, n, 2⟩ ∧
      t.res = resolve s.policy t.tick s.table ⟨A, true, n, 2⟩ ∧ (t.res.err = true ↔ A.toNat + n.toNat > 2 ^ 64 ∨ ¬ TableFits s.table) ∧
      ResolverFrame s t ∧ EntryOutputs s.table t.ent)

/-- R144, R145. `err` is 1 exactly when the type is 3, or a size is given and the access runs past 2^64, or some entry,
scanned or not, has a region beyond 64 bits; the per-entry outputs stay valid all the same. That such an evaluation
completes is the model's choice (log 6, DESIGN CHOICE). -/
def Obligations.ErrExactlyOnIllegalInput : Prop :=
  ∀ (sv : Bool) (ty : BitVec 2) (A n : Word) (s : State), ∃ t, exec (requestOp sv ty A n) s = .next t ∧
    (t.res.err = true ↔ ty = 3 ∨ (sv = true ∧ A.toNat + n.toNat > 2 ^ 64) ∨ ∃ d ∈ t.ent, d.rangeErr = true) ∧
    ((∃ d ∈ t.ent, d.rangeErr = true) ↔ ¬ TableFits s.table) ∧ EntryOutputs s.table t.ent

/-- R70, R145. The two reserved request opcodes drive `err = 1`, whatever the table and the operands, and the per-entry
outputs stay valid (R145). That they complete, where R145 asks for a refusal, is the model's choice (log 6, DESIGN
CHOICE), and the frame is its reading (log 21, DEDUCED). -/
def Obligations.ReservedRequestTypeDrivesErr : Prop :=
  ∀ (A n : Word) (s : State),
    (∃ t, exec (.reservedP3 A n) s = .next t ∧ t.res.err = true ∧ t.req = ⟨A, false, n, 3⟩ ∧
      ResolverFrame s t ∧ EntryOutputs s.table t.ent) ∧
    (∃ t, exec (.reservedS3 A n) s = .next t ∧ t.res.err = true ∧ t.req = ⟨A, true, n, 3⟩ ∧
      ResolverFrame s t ∧ EntryOutputs s.table t.ent)

/-- R125. `access_ok` is the grant on a hit and the policy's word on a no match, and no other output of a legal
evaluation depends on the policy. -/
def Obligations.NoMatchPolicyDecidesAccessOkOnly : Prop :=
  ∀ (sv : Bool) (ty : BitVec 2) (A n : Word) (s t u : State) (p : NoMatchPolicy),
    exec (requestOp sv ty A n) s = .next t → exec (requestOp sv ty A n) { s with policy := p } = .next u →
    t.res.err = u.res.err ∧
    (t.res.err = false →
      (t.res.hit = true → t.res.accessOk = t.res.grant) ∧
      (t.res.hit = false → (t.res.accessOk = true ↔ s.policy = .allow)) ∧
      u.res = { t.res with accessOk := u.res.accessOk })

/-- R126. On the empty table every legal request gives no match. -/
def Obligations.EmptyTableNeverMatches : Prop :=
  ∀ (sv : Bool) (ty : BitVec 2) (A n : Word) (s : State), s.table = [] → ty ≠ 3 →
    InSpace (requestPorts sv ty A n) →
    ∃ t, exec (requestOp sv ty A n) s = .next t ∧ t.res.err = false ∧ t.res.hit = false ∧ t.res.matchIndex = 0 ∧
      t.res.grant = false ∧ t.res.permSet = 0 ∧ t.ent = []

/-- R114, R128 (c). Entries after the first containing one change no result: two tables that agree up to it, both
fitting, give the same. -/
def Obligations.LaterEntriesAreShadowed : Prop :=
  ∀ (sv : Bool) (ty : BitVec 2) (A n : Word) (s t u : State) (E F G : List Entry), s.table = E ++ F →
    exec (requestOp sv ty A n) s = .next t → exec (requestOp sv ty A n) { s with table := E ++ G } = .next u →
    t.res.err = false → u.res.err = false → t.res.hit = true → t.res.matchIndex < E.length → t.res = u.res

/-- R82, R127, R128 (d). Bits 7, 6 and 5 of the configuration bytes (the lock among them) change no result: tables with
the same registers and the same low five bits of each byte resolve alike, and their per-entry outputs differ in
`locked` alone. That unspecified bound ports agree too is the model's choice (log 7, DESIGN CHOICE). -/
def Obligations.LockAndIgnoredBitsChangeNoResult : Prop :=
  ∀ (sv : Bool) (ty : BitVec 2) (A n : Word) (s t u : State) (F : List Entry),
    s.table.map (fun e => (e.a, e.cfg &&& 0x1F)) = F.map (fun e => (e.a, e.cfg &&& 0x1F)) →
    exec (requestOp sv ty A n) s = .next t → exec (requestOp sv ty A n) { s with table := F } = .next u →
    t.res.err = u.res.err ∧ (t.res.err = false → t.res = u.res) ∧
    t.ent.map (fun d => { d with flags := { d.flags with locked := false } }) =
      u.ent.map (fun d => { d with flags := { d.flags with locked := false } })

/-- R45, R112 (a). A size of 1 and no size give the same verdict on every table. -/
def Obligations.SizeOneIsThePointCheck : Prop :=
  ∀ (ty : BitVec 2) (A n : Word) (s t u : State), exec (requestOp false ty A n) s = .next t →
    exec (requestOp true ty A 1) s = .next u → t.res.err = u.res.err ∧ (t.res.err = false → t.res = u.res)

/-- R20, R46, R50. A result without `err` is a function of the table, the policy and the request: whatever was evaluated
before, and whatever else stands on the ports, it is the same. -/
def Obligations.ResultDependsOnTheInputsAlone : Prop :=
  ∀ (sv : Bool) (ty : BitVec 2) (A n : Word) (s₁ s₂ t₁ t₂ : State), s₁.table = s₂.table → s₁.policy = s₂.policy →
    exec (requestOp sv ty A n) s₁ = .next t₁ → exec (requestOp sv ty A n) s₂ = .next t₂ →
    t₁.res.err = t₂.res.err ∧ (t₁.res.err = false → t₁.res = t₂.res ∧ t₁.ent = t₂.ent)

/-- R7, R32. Every index shown, also an unspecified one, is a number of `IDX_W` bits, and `IDX_W` is the least positive
width that can name all `N` entries. -/
def Obligations.MatchIndexFitsItsPort : Prop :=
  (∀ (sv : Bool) (ty : BitVec 2) (A n : Word) (s t : State), exec (requestOp sv ty A n) s = .next t →
    t.res.matchIndex < 2 ^ Config.idxWidth s.table.length) ∧
  (∀ N : Nat, 1 ≤ Config.idxWidth N ∧ N ≤ 2 ^ Config.idxWidth N ∧
    ∀ w, 1 ≤ w → N ≤ 2 ^ w → Config.idxWidth N ≤ w)

/-- R96, R145. With every register in the architected domain and a legal request, no evaluation reports an error. -/
def Obligations.ArchitectedTableNeverErrs : Prop :=
  ∀ (sv : Bool) (ty : BitVec 2) (A n : Word) (s : State), (∀ e ∈ s.table, e.a.toNat < 2 ^ 54) → ty ≠ 3 →
    InSpace (requestPorts sv ty A n) →
    ∃ t, exec (requestOp sv ty A n) s = .next t ∧ t.res.err = false ∧ ∀ d ∈ t.ent, d.rangeErr = false

/-! ### Encodings -/

/-- Decoding the word of a well-formed instruction gives the instruction, every operand at every value. -/
def Obligations.DecodeOfEncode : Prop :=
  ∀ i : Instr, WellFormed i → decode (encode i) = .ok i

/-- Every word has one meaning: what decodes is a well-formed instruction, and its word is the one decoded. -/
def Obligations.EncodeOfDecode : Prop :=
  ∀ (o : OpWord) (i : Instr), decode o = .ok i → WellFormed i ∧ encode i = o

/-- R69, R71. No word that fits its format is illegal, and a wider one is refused by name. -/
def Obligations.OnlyTooWideWordsAreRefused : Prop :=
  ∀ o : OpWord, (o.bits < 2 ^ o.form.width → ∃ i, decode o = .ok i) ∧
    (2 ^ o.form.width ≤ o.bits → decode o = .error (.tooWide o.form))

/-- Words written out from the spec's encodings (R60, R63, R64) decode to the operations they stand for, all eight
`req_op` values among them. That an 8-bit table word 1 to 7 is read as a request is the model's choice (log 5). -/
def Obligations.WrittenOutWordsDecode : Prop :=
  decode ⟨.perm, 0b10011011⟩ = .ok (.perm 0x9B) ∧
  decodeTableWord 8 0b11100111 = some (.regionOff ⟨0, 0xE7, false, 0⟩) ∧
  decodeTableWord 8 0b00001111 = some (.regionTor ⟨0, 0x0F, false, 0⟩) ∧
  decodeTableWord 64 0b100111 = some (.regionNapotT3 0x27) ∧
  decodeTableWord 64 0x7FFFFFFFFFFFFFF = some (.regionNapotAll 0x7FFFFFFFFFFFFFF) ∧
  decodeTableWord 3 0b000 = some (.resolvePR 0 0) ∧ decodeTableWord 8 0b001 = some (.resolvePW 0 0) ∧
  decodeTableWord 8 0b010 = some (.resolvePX 0 0) ∧ decodeTableWord 8 0b011 = some (.reservedP3 0 0) ∧
  decodeTableWord 8 0b100 = some (.resolveSR 0 0) ∧ decodeTableWord 8 0b101 = some (.resolveSW 0 0) ∧
  decodeTableWord 8 0b110 = some (.resolveSX 0 0) ∧ decodeTableWord 8 0b111 = some (.reservedS3 0 0)

/-- R64. `req_op` is `req_size_valid` above `req_type`: for all eight, and every address and size, the operation's word
is the request word with that opcode in its low three bits, and it decodes to the operation. Where the operands stand
above the opcode is the model's choice (log 4, DESIGN CHOICE). -/
def Obligations.RequestOpcodeIsSizePresenceAndType : Prop :=
  ∀ (sv : Bool) (ty : BitVec 2) (A n : Word),
    encode (requestOp sv ty A n) = ⟨.request, 4 * sv.toNat + ty.toNat + 2 ^ 3 * A.toNat + 2 ^ 67 * n.toNat⟩ ∧
    decode ⟨.request, 4 * sv.toNat + ty.toNat + 2 ^ 3 * A.toNat + 2 ^ 67 * n.toNat⟩ = .ok (requestOp sv ty A n)

/-! ### The machine -/

/-- When an operation is presented whose word decodes to `i`, the step is `exec i` on the state with that word taken. -/
def Obligations.StepRunsTheDecodedOperation : Prop :=
  ∀ (s : State) (o : OpWord) (rest : List OpWord) (i : Instr), s.program = o :: rest → decode o = .ok i →
    step s = exec i { s with program := rest }

/-- C8 as the model reads it (log 3, DEDUCED). With nothing presented the step changes no input and shows every output of
the inputs that stand, the per-entry outputs among them. -/
def Obligations.StepWithoutOperationDecodesTheTable : Prop :=
  ∀ s : State, s.program = [] → ∃ t, step s = .next t ∧ EntryOutputs s.table t.ent ∧
    t = { s with decOut := t.decOut, ent := t.ent, res := t.res, tick := s.tick + 1 } ∧ OutputsOfInputs t

/-- R98, R140, R146: the block raises nothing, and an error flag stops nothing. No operation faults or is refused, and a
step stops only on a word that is no operation (log 16, DESIGN CHOICE). That an evaluation with `range_err = 1` or
`err = 1` completes too, where R95 and R145 ask a model to refuse it, is the model's choice (log 6, DESIGN CHOICE). -/
def Obligations.NothingButAnIllFormedWordStops : Prop :=
  (∀ (i : Instr) (s : State), ∃ t, exec i s = .next t) ∧
  (∀ s : State, (∃ t, step s = .next t) ∨
    ∃ o rest, s.program = o :: rest ∧ 2 ^ o.form.width ≤ o.bits ∧
      step s = .refused (.notAnOperation (.tooWide o.form)))

/-- R24. The block only reads the table and the parameter: no operation changes the policy or what is presented next,
and only the presentation of another table (DECODE_ALL, log 18) changes the table. -/
def Obligations.TheBlockOnlyReadsItsInputs : Prop :=
  ∀ (i : Instr) (s t : State), exec i s = .next t →
    t.policy = s.policy ∧ t.program = s.program ∧
    (t.table = s.table ∨ ∃ E, i = .decodeAll E ∧ t.table = E)

/-- R33, R161. `State.reset` meets `Inv`, and every output of it is the function of its inputs; the inputs themselves are
the model's choice (log 11, log 12, DESIGN CHOICE). -/
def Obligations.ResetMeetsTheInvariant : Prop :=
  Inv State.reset ∧ State.reset.decOut = decodePorts 0 .alone State.reset.decIn ∧
    State.reset.ent = decodeTable 0 State.reset.table ∧
    State.reset.res = resolve State.reset.policy 0 State.reset.table State.reset.req

/-- R28, R33, R95, R116, R145. Every step keeps the invariant: every output is the function of the inputs, the flags are
the byte's, the bound ports the exact region's, the per-entry outputs the table's, `err` that of the request and table,
and a result without `err` one of grant, denial and no match. -/
def Obligations.StepKeepsTheInvariant : Prop :=
  ∀ s t : State, Inv s → step s = .next t → Inv t

/-- R33, R146, R161. From any state, whatever stands on its ports, after every well-formed operation and after every step
every output is the function of the inputs that then stand. -/
def Obligations.EveryEvaluationDrivesEveryOutput : Prop :=
  (∀ (i : Instr) (s t : State), WellFormed i → exec i s = .next t → OutputsOfInputs t) ∧
  (∀ s t : State, step s = .next t → OutputsOfInputs t)

/-- R20, R142. Nothing is kept between two evaluations: whatever an earlier one left on the output ports, an operation
and a step answer the same. That they do so on the outputs the spec leaves unspecified is the model's choice (log 7,
DESIGN CHOICE). -/
def Obligations.NothingIsKeptBetweenEvaluations : Prop :=
  ∀ (s : State) (o : DecOut) (r : ResOut) (e : List DecOut),
    (∀ i : Instr, exec i { s with decOut := o, res := r, ent := e } = exec i s) ∧
    step { s with decOut := o, res := r, ent := e } = step s

/-- R33, R46. An output changes only with its inputs, but for the ports the spec leaves unspecified (R95, R145; free
values, log 7): the decoder's with its input ports, the per-entry outputs with the table, the result with the table and
the request. -/
def Obligations.OutputsChangeOnlyWithTheirInputs : Prop :=
  ∀ (i : Instr) (s t : State), OutputsOfInputs s → WellFormed i → exec i s = .next t →
    (t.decIn = s.decIn →
      t.decOut = { s.decOut with start := t.decOut.start, endPort := t.decOut.endPort } ∧
      (s.decOut.rangeErr = false → t.decOut = s.decOut)) ∧
    (t.table = s.table → ∀ (k : Nat) (x : DecOut), s.ent[k]? = some x → ∃ y, t.ent[k]? = some y ∧
      y = { x with start := y.start, endPort := y.endPort } ∧ (x.rangeErr = false → y = x)) ∧
    (t.table = s.table → t.req = s.req → t.res.err = s.res.err ∧ (s.res.err = false → t.res = s.res))
end

