-- ==== Sys2Proof/Laws/State.lean ====
section
/-! SUPPORT. One lemma per field per update of State, and per field of driving the outputs, true by unfolding. -/

namespace Sys2Proof.Machine

@[simp] theorem State.setTable_table (v : List Entry) (s : State) : (s.setTable v).table = v := rfl
@[simp] theorem State.setTable_decIn (v : List Entry) (s : State) : (s.setTable v).decIn = s.decIn := rfl
@[simp] theorem State.setTable_decOut (v : List Entry) (s : State) : (s.setTable v).decOut = s.decOut := rfl
@[simp] theorem State.setTable_req (v : List Entry) (s : State) : (s.setTable v).req = s.req := rfl
@[simp] theorem State.setTable_res (v : List Entry) (s : State) : (s.setTable v).res = s.res := rfl
@[simp] theorem State.setTable_ent (v : List Entry) (s : State) : (s.setTable v).ent = s.ent := rfl
@[simp] theorem State.setTable_policy (v : List Entry) (s : State) : (s.setTable v).policy = s.policy := rfl
@[simp] theorem State.setTable_program (v : List Entry) (s : State) : (s.setTable v).program = s.program := rfl
@[simp] theorem State.setTable_tick (v : List Entry) (s : State) : (s.setTable v).tick = s.tick := rfl

@[simp] theorem State.setDecIn_table (v : DecIn) (s : State) : (s.setDecIn v).table = s.table := rfl
@[simp] theorem State.setDecIn_decIn (v : DecIn) (s : State) : (s.setDecIn v).decIn = v := rfl
@[simp] theorem State.setDecIn_decOut (v : DecIn) (s : State) : (s.setDecIn v).decOut = s.decOut := rfl
@[simp] theorem State.setDecIn_req (v : DecIn) (s : State) : (s.setDecIn v).req = s.req := rfl
@[simp] theorem State.setDecIn_res (v : DecIn) (s : State) : (s.setDecIn v).res = s.res := rfl
@[simp] theorem State.setDecIn_ent (v : DecIn) (s : State) : (s.setDecIn v).ent = s.ent := rfl
@[simp] theorem State.setDecIn_policy (v : DecIn) (s : State) : (s.setDecIn v).policy = s.policy := rfl
@[simp] theorem State.setDecIn_program (v : DecIn) (s : State) : (s.setDecIn v).program = s.program := rfl
@[simp] theorem State.setDecIn_tick (v : DecIn) (s : State) : (s.setDecIn v).tick = s.tick := rfl

@[simp] theorem State.setDecOut_table (v : DecOut) (s : State) : (s.setDecOut v).table = s.table := rfl
@[simp] theorem State.setDecOut_decIn (v : DecOut) (s : State) : (s.setDecOut v).decIn = s.decIn := rfl
@[simp] theorem State.setDecOut_decOut (v : DecOut) (s : State) : (s.setDecOut v).decOut = v := rfl
@[simp] theorem State.setDecOut_req (v : DecOut) (s : State) : (s.setDecOut v).req = s.req := rfl
@[simp] theorem State.setDecOut_res (v : DecOut) (s : State) : (s.setDecOut v).res = s.res := rfl
@[simp] theorem State.setDecOut_ent (v : DecOut) (s : State) : (s.setDecOut v).ent = s.ent := rfl
@[simp] theorem State.setDecOut_policy (v : DecOut) (s : State) : (s.setDecOut v).policy = s.policy := rfl
@[simp] theorem State.setDecOut_program (v : DecOut) (s : State) : (s.setDecOut v).program = s.program := rfl
@[simp] theorem State.setDecOut_tick (v : DecOut) (s : State) : (s.setDecOut v).tick = s.tick := rfl

@[simp] theorem State.setReq_table (v : ReqIn) (s : State) : (s.setReq v).table = s.table := rfl
@[simp] theorem State.setReq_decIn (v : ReqIn) (s : State) : (s.setReq v).decIn = s.decIn := rfl
@[simp] theorem State.setReq_decOut (v : ReqIn) (s : State) : (s.setReq v).decOut = s.decOut := rfl
@[simp] theorem State.setReq_req (v : ReqIn) (s : State) : (s.setReq v).req = v := rfl
@[simp] theorem State.setReq_res (v : ReqIn) (s : State) : (s.setReq v).res = s.res := rfl
@[simp] theorem State.setReq_ent (v : ReqIn) (s : State) : (s.setReq v).ent = s.ent := rfl
@[simp] theorem State.setReq_policy (v : ReqIn) (s : State) : (s.setReq v).policy = s.policy := rfl
@[simp] theorem State.setReq_program (v : ReqIn) (s : State) : (s.setReq v).program = s.program := rfl
@[simp] theorem State.setReq_tick (v : ReqIn) (s : State) : (s.setReq v).tick = s.tick := rfl

@[simp] theorem State.setRes_table (v : ResOut) (s : State) : (s.setRes v).table = s.table := rfl
@[simp] theorem State.setRes_decIn (v : ResOut) (s : State) : (s.setRes v).decIn = s.decIn := rfl
@[simp] theorem State.setRes_decOut (v : ResOut) (s : State) : (s.setRes v).decOut = s.decOut := rfl
@[simp] theorem State.setRes_req (v : ResOut) (s : State) : (s.setRes v).req = s.req := rfl
@[simp] theorem State.setRes_res (v : ResOut) (s : State) : (s.setRes v).res = v := rfl
@[simp] theorem State.setRes_ent (v : ResOut) (s : State) : (s.setRes v).ent = s.ent := rfl
@[simp] theorem State.setRes_policy (v : ResOut) (s : State) : (s.setRes v).policy = s.policy := rfl
@[simp] theorem State.setRes_program (v : ResOut) (s : State) : (s.setRes v).program = s.program := rfl
@[simp] theorem State.setRes_tick (v : ResOut) (s : State) : (s.setRes v).tick = s.tick := rfl

@[simp] theorem State.setEnt_table (v : List DecOut) (s : State) : (s.setEnt v).table = s.table := rfl
@[simp] theorem State.setEnt_decIn (v : List DecOut) (s : State) : (s.setEnt v).decIn = s.decIn := rfl
@[simp] theorem State.setEnt_decOut (v : List DecOut) (s : State) : (s.setEnt v).decOut = s.decOut := rfl
@[simp] theorem State.setEnt_req (v : List DecOut) (s : State) : (s.setEnt v).req = s.req := rfl
@[simp] theorem State.setEnt_res (v : List DecOut) (s : State) : (s.setEnt v).res = s.res := rfl
@[simp] theorem State.setEnt_ent (v : List DecOut) (s : State) : (s.setEnt v).ent = v := rfl
@[simp] theorem State.setEnt_policy (v : List DecOut) (s : State) : (s.setEnt v).policy = s.policy := rfl
@[simp] theorem State.setEnt_program (v : List DecOut) (s : State) : (s.setEnt v).program = s.program := rfl
@[simp] theorem State.setEnt_tick (v : List DecOut) (s : State) : (s.setEnt v).tick = s.tick := rfl

@[simp] theorem State.setProgram_table (v : List OpWord) (s : State) : (s.setProgram v).table = s.table := rfl
@[simp] theorem State.setProgram_decIn (v : List OpWord) (s : State) : (s.setProgram v).decIn = s.decIn := rfl
@[simp] theorem State.setProgram_decOut (v : List OpWord) (s : State) : (s.setProgram v).decOut = s.decOut := rfl
@[simp] theorem State.setProgram_req (v : List OpWord) (s : State) : (s.setProgram v).req = s.req := rfl
@[simp] theorem State.setProgram_res (v : List OpWord) (s : State) : (s.setProgram v).res = s.res := rfl
@[simp] theorem State.setProgram_ent (v : List OpWord) (s : State) : (s.setProgram v).ent = s.ent := rfl
@[simp] theorem State.setProgram_policy (v : List OpWord) (s : State) : (s.setProgram v).policy = s.policy := rfl
@[simp] theorem State.setProgram_program (v : List OpWord) (s : State) : (s.setProgram v).program = v := rfl
@[simp] theorem State.setProgram_tick (v : List OpWord) (s : State) : (s.setProgram v).tick = s.tick := rfl

@[simp] theorem State.nextTick_table (s : State) : s.nextTick.table = s.table := rfl
@[simp] theorem State.nextTick_decIn (s : State) : s.nextTick.decIn = s.decIn := rfl
@[simp] theorem State.nextTick_decOut (s : State) : s.nextTick.decOut = s.decOut := rfl
@[simp] theorem State.nextTick_req (s : State) : s.nextTick.req = s.req := rfl
@[simp] theorem State.nextTick_res (s : State) : s.nextTick.res = s.res := rfl
@[simp] theorem State.nextTick_ent (s : State) : s.nextTick.ent = s.ent := rfl
@[simp] theorem State.nextTick_policy (s : State) : s.nextTick.policy = s.policy := rfl
@[simp] theorem State.nextTick_program (s : State) : s.nextTick.program = s.program := rfl
@[simp] theorem State.nextTick_tick (s : State) : s.nextTick.tick = s.tick + 1 := rfl

@[simp] theorem State.drive_table (r : Region) (s : State) : (s.drive r).table = s.table := rfl
@[simp] theorem State.drive_decIn (r : Region) (s : State) : (s.drive r).decIn = s.decIn := rfl
@[simp] theorem State.drive_decOut (r : Region) (s : State) :
    (s.drive r).decOut = narrow s.tick .alone (perm s.decIn.configByte) r := rfl
@[simp] theorem State.drive_req (r : Region) (s : State) : (s.drive r).req = s.req := rfl
@[simp] theorem State.drive_res (r : Region) (s : State) :
    (s.drive r).res = resolve s.policy s.tick s.table s.req := rfl
@[simp] theorem State.drive_ent (r : Region) (s : State) : (s.drive r).ent = decodeTable s.tick s.table := rfl
@[simp] theorem State.drive_policy (r : Region) (s : State) : (s.drive r).policy = s.policy := rfl
@[simp] theorem State.drive_program (r : Region) (s : State) : (s.drive r).program = s.program := rfl
@[simp] theorem State.drive_tick (r : Region) (s : State) : (s.drive r).tick = s.tick := rfl

end Sys2Proof.Machine
end

