-- ==== Sys2Proof/Laws/Words.lean ====
section
/-! SUPPORT. What the field helpers of the decoder compute: trailing ones, the mode field, packing and unpacking. -/

namespace Sys2Proof

/-! ### Trailing ones -/

theorem ctoBits_le (fuel n : Nat) : ctoBits fuel n ≤ fuel := by
  induction fuel generalizing n with
  | zero => simp [ctoBits]
  | succ f ih => rw [ctoBits]; split <;> [exact Nat.succ_le_succ (ih _); omega]

/-- Within its fuel, `ctoBits` is at least `t` exactly when the low `t` bits are ones. -/
theorem le_ctoBits_iff (fuel n t : Nat) (h : t ≤ fuel) : t ≤ ctoBits fuel n ↔ n % 2 ^ t = 2 ^ t - 1 := by
  induction fuel generalizing n t with
  | zero => obtain rfl : t = 0 := by omega
            simp [Nat.mod_one]
  | succ f ih =>
    cases t with
    | zero => simp [Nat.mod_one]
    | succ t =>
      have hp : 0 < 2 ^ t := Nat.two_pow_pos t
      have hm : n % 2 ^ (t + 1) = n % 2 + 2 * (n / 2 % 2 ^ t) := by
        rw [pow_succ, Nat.mul_comm, Nat.mod_mul]
      have hs : 2 ^ (t + 1) = 2 * 2 ^ t := by rw [pow_succ, Nat.mul_comm]
      rw [ctoBits]
      split
      · rename_i hodd
        rw [Nat.succ_le_succ_iff, ih (n / 2) t (by omega)]
        have : n / 2 % 2 ^ t < 2 ^ t := Nat.mod_lt _ hp
        omega
      · rename_i heven
        have : n / 2 % 2 ^ t < 2 ^ t := Nat.mod_lt _ hp
        omega

theorem cto_le (v : Word) : cto v ≤ 64 := ctoBits_le 64 v.toNat

theorem le_cto_iff (v : Word) (t : Nat) (h : t ≤ 64) : t ≤ cto v ↔ v.toNat % 2 ^ t = 2 ^ t - 1 :=
  le_ctoBits_iff 64 v.toNat t h

/-- The ones below bit `cto v`. -/
theorem mod_cto (v : Word) : v.toNat % 2 ^ cto v = 2 ^ cto v - 1 :=
  (le_cto_iff v _ (cto_le v)).mp le_rfl

/-- The pattern `0` and then `t` ones, read as one number. -/
theorem mod_succ_of_cto (v : Word) (h : cto v < 64) : v.toNat % 2 ^ (cto v + 1) = 2 ^ cto v - 1 := by
  have hno : ¬ v.toNat % 2 ^ (cto v + 1) = 2 ^ (cto v + 1) - 1 := fun e => by
    have := (le_cto_iff v (cto v + 1) (by omega)).mpr e
    omega
  have hlow := mod_cto v
  have hp : 0 < 2 ^ cto v := Nat.two_pow_pos _
  have hm : v.toNat % 2 ^ (cto v + 1) = v.toNat % 2 ^ cto v + 2 ^ cto v * (v.toNat / 2 ^ cto v % 2) := by
    rw [pow_succ, Nat.mod_mul]
  have hs : 2 ^ (cto v + 1) = 2 * 2 ^ cto v := by rw [pow_succ, Nat.mul_comm]
  rcases Nat.mod_two_eq_zero_or_one (v.toNat / 2 ^ cto v) with hb | hb
  · rw [hm, hb, hlow]; omega
  · rw [hb, hlow] at hm; omega

/-- The bit above the trailing ones is 0. -/
theorem div_cto_even (v : Word) : v.toNat / 2 ^ cto v % 2 = 0 := by
  rcases Nat.lt_or_ge (cto v) 64 with h | h
  · have hs : 2 ^ (cto v + 1) = 2 ^ cto v * 2 := pow_succ ..
    have hp : 0 < 2 ^ cto v := Nat.two_pow_pos _
    rw [← Nat.mod_mul_right_div_self, ← hs, mod_succ_of_cto v h, Nat.div_eq_of_lt (by omega)]
  · have : cto v = 64 := by have := cto_le v; omega
    rw [this, Nat.div_eq_of_lt v.isLt]

theorem getLsbD_eq_false_iff (v : Word) (k : Nat) : v.getLsbD k = false ↔ v.toNat / 2 ^ k % 2 = 0 := by
  rw [BitVec.getLsbD, Nat.testBit_eq_decide_div_mod_eq, decide_eq_false_iff_not]; omega

/-- The check of an ADDR row is a statement about the trailing ones. -/
theorem addrMatches_iff (t : Nat) (ht : t < 64) (a : Word) : addrMatches t a = true ↔ cto a = t := by
  have hp : 0 < 2 ^ t := Nat.two_pow_pos t
  have hs : 2 ^ (t + 1) = 2 * 2 ^ t := by rw [pow_succ, Nat.mul_comm]
  rw [addrMatches, beq_iff_eq]
  constructor
  · intro h
    have hlow : a.toNat % 2 ^ t = 2 ^ t - 1 := by
      have := congrArg (· % 2 ^ t) h
      simp only [Nat.mod_mod_of_dvd _ (pow_dvd_pow 2 (Nat.le_succ t))] at this
      rw [this, Nat.mod_eq_of_lt (by omega)]
    have h1 := (le_cto_iff a t (by omega)).mpr hlow
    have h2 : ¬ t + 1 ≤ cto a := fun hc => by
      have := (le_cto_iff a (t + 1) (by omega)).mp hc
      omega
    omega
  · rintro rfl
    exact mod_succ_of_cto a ht

theorem addrMatchesOver_iff (a : Word) : addrMatchesOver a = true ↔ 60 ≤ cto a := by
  rw [addrMatchesOver, beq_iff_eq, le_cto_iff a 60 (by omega)]

/-! ### The mode field -/

theorem modeOfCode_code (m : Mode) : modeOfCode m.code = m := by cases m <;> rfl

theorem code_modeOfCode (c : BitVec 2) : (modeOfCode c).code = c := by revert c; decide

theorem code_modeOf (cfg : Byte) : (modeOf cfg).code = cfg.extractLsb' 3 2 := code_modeOfCode _

/-- The check of a CFG row is a statement about the mode. -/
theorem cfgMatches_iff (m : Mode) (cfg : Byte) :
    cfgMatches (m.code.setWidth 8 <<< 3) cfg = true ↔ modeOf cfg = m := by
  revert cfg; cases m <;> decide

/-! ### Packing -/

theorem packEntry_lt (e : Entry) : packEntry e < 2 ^ 72 := by
  have := e.a.isLt; have := e.cfg.isLt
  unfold packEntry; omega

theorem unpackEntry_packEntry (e : Entry) (r : Nat) : unpackEntry (packEntry e + 2 ^ 72 * r) = e := by
  have ha := e.a.isLt; have hc := e.cfg.isLt
  obtain ⟨a, cfg⟩ := e
  simp only [unpackEntry, packEntry, Entry.mk.injEq] at *
  exact ⟨by apply BitVec.eq_of_toNat_eq; rw [BitVec.toNat_ofNat]; omega,
    by apply BitVec.eq_of_toNat_eq; rw [BitVec.toNat_ofNat]; omega⟩

theorem packEntry_unpackEntry (b : Nat) : packEntry (unpackEntry b) = b % 2 ^ 72 := by
  simp only [packEntry, unpackEntry, BitVec.toNat_ofNat]; omega

theorem packTable_lt (es : List Entry) : packTable es < 2 ^ (72 * es.length) := by
  induction es with
  | nil => simp [packTable]
  | cons e es ih =>
    have he := packEntry_lt e
    have hs : 2 ^ (72 * (e :: es).length) = 2 ^ 72 * 2 ^ (72 * es.length) := by
      rw [← pow_add]; congr 1; simp only [List.length_cons]; omega
    rw [packTable, hs]
    have := Nat.mul_le_mul_left (2 ^ 72) (Nat.succ_le_of_lt ih)
    omega

theorem unpackTable_length (n b : Nat) : (unpackTable n b).length = n := by
  induction n generalizing b with
  | zero => rfl
  | succ n ih => simp [unpackTable, ih]

theorem unpackTable_packTable (es : List Entry) : unpackTable es.length (packTable es) = es := by
  induction es with
  | nil => rfl
  | cons e es ih =>
    have he := packEntry_lt e
    have hd : (packEntry e + 2 ^ 72 * packTable es) / 2 ^ 72 = packTable es := by omega
    rw [packTable, List.length_cons, unpackTable, unpackEntry_packEntry, hd, ih]

theorem packTable_unpackTable (n b : Nat) (h : b < 2 ^ (72 * n)) : packTable (unpackTable n b) = b := by
  induction n generalizing b with
  | zero => simp only [Nat.mul_zero, pow_zero, Nat.lt_one_iff] at h; subst h; rfl
  | succ n ih =>
    have hs : 2 ^ (72 * (n + 1)) = 2 ^ 72 * 2 ^ (72 * n) := by rw [← pow_add]; congr 1; omega
    rw [unpackTable, packTable, packEntry_unpackEntry, ih _ (Nat.div_lt_of_lt_mul (hs ▸ h))]
    omega

theorem packDecIn_lt (d : DecIn) : packDecIn d < 2 ^ 137 := by
  have := d.addressRegister.isLt; have := d.configByte.isLt; have := d.prevAddressRegister.isLt
  have : d.prevValid.toNat ≤ 1 := Bool.toNat_le _
  unfold packDecIn; omega

theorem unpackDecIn_packDecIn (d : DecIn) : unpackDecIn (packDecIn d) = d := by
  obtain ⟨a, cfg, v, p⟩ := d
  have ha := a.isLt; have hc := cfg.isLt; have hp := p.isLt
  have hv : v.toNat ≤ 1 := Bool.toNat_le _
  simp only [unpackDecIn, packDecIn, DecIn.mk.injEq]
  refine ⟨by apply BitVec.eq_of_toNat_eq; rw [BitVec.toNat_ofNat]; omega,
    by apply BitVec.eq_of_toNat_eq; rw [BitVec.toNat_ofNat]; omega, ?_,
    by apply BitVec.eq_of_toNat_eq; rw [BitVec.toNat_ofNat]; omega⟩
  have hb : (cfg.toNat + 2 ^ 8 * a.toNat + 2 ^ 72 * v.toNat + 2 ^ 73 * p.toNat) / 2 ^ 72 % 2 = v.toNat := by omega
  rw [hb]; cases v <;> rfl

theorem packDecIn_unpackDecIn (b : Nat) (h : b < 2 ^ 137) : packDecIn (unpackDecIn b) = b := by
  have hv : (b / 2 ^ 72 % 2 == 1).toNat = b / 2 ^ 72 % 2 := by
    rcases Nat.mod_two_eq_zero_or_one (b / 2 ^ 72) with e | e <;> rw [e] <;> rfl
  simp only [packDecIn, unpackDecIn, BitVec.toNat_ofNat, hv]; omega

theorem packReq_lt (op : Nat) (h : op < 8) (address size : Word) : packReq op address size < 2 ^ 131 := by
  have := address.isLt; have := size.isLt
  unfold packReq; omega

theorem packReq_op (op : Nat) (h : op < 8) (address size : Word) : packReq op address size % 2 ^ 3 = op := by
  unfold packReq; omega

theorem packReq_address (op : Nat) (h : op < 8) (address size : Word) :
    BitVec.ofNat 64 (packReq op address size / 2 ^ 3) = address := by
  have ha := address.isLt; have hs := size.isLt
  apply BitVec.eq_of_toNat_eq
  rw [BitVec.toNat_ofNat, packReq]; omega

theorem packReq_size (op : Nat) (h : op < 8) (address size : Word) :
    BitVec.ofNat 64 (packReq op address size / 2 ^ 67) = size := by
  have ha := address.isLt; have hs := size.isLt
  apply BitVec.eq_of_toNat_eq
  rw [BitVec.toNat_ofNat, packReq]; omega

theorem packReq_unpack (b : Nat) (h : b < 2 ^ 131) :
    packReq (b % 2 ^ 3) (BitVec.ofNat 64 (b / 2 ^ 3)) (BitVec.ofNat 64 (b / 2 ^ 67)) = b := by
  simp only [packReq, BitVec.toNat_ofNat]; omega

/-! ### Decoding -/

/-- A word that fits its format decodes. -/
theorem decode_of_lt (form : Form) (bits : Nat) (h : bits < 2 ^ form.width) :
    decode ⟨form, bits⟩ = .ok (decodeBits form bits) := if_pos h

/-- What decodes fits, and is what its bits say. -/
theorem decode_eq_ok {o : OpWord} {i : Instr} (h : decode o = .ok i) :
    o.bits < 2 ^ o.form.width ∧ decodeBits o.form o.bits = i := by
  unfold decode at h
  split at h
  · injection h with h; exact ⟨‹_›, h⟩
  · cases h

/-- The ADDR row that a register of the row's pattern decodes to. -/
theorem decodeNapot_of_matches {t : Nat} {a : Word} (ht : t < 64) (h : addrMatches t a = true) :
    decodeNapot a = Instr.napotByCount t a := by
  rw [decodeNapot, (addrMatches_iff t ht a).mp h]

/-- From 60 ones on it is the row OVER. -/
theorem napotByCount_over (t : Nat) (a : Word) (h : 60 ≤ t) (h' : t ≤ 64) :
    Instr.napotByCount t a = .regionNapotOver a := by
  interval_cases t <;> rfl

/-! ### What decodes is well-formed -/

theorem decodeRegion_wellFormed (d : DecIn) : WellFormed (decodeRegion d) := by
  rw [decodeRegion]
  cases h : modeOf d.configByte <;> exact (cfgMatches_iff _ _).mpr h

theorem decodeNapot_wellFormed (a : Word) : WellFormed (decodeNapot a) := by
  have hle := cto_le a
  rw [decodeNapot]
  rcases Nat.lt_or_ge (cto a) 60 with h | h
  · have hm := (addrMatches_iff (cto a) (by omega) a).mpr rfl
    generalize cto a = x at h hm ⊢
    interval_cases x <;> exact hm
  · rw [napotByCount_over _ a h hle]; exact (addrMatchesOver_iff a).mpr h

theorem decodeReq_wellFormed (op : Nat) (address size : Word) : WellFormed (decodeReq op address size) := by
  unfold decodeReq; split <;> rfl

end Sys2Proof
end

