-- ==== Sys2Proof/Laws/Ports.lean ====
section
/-! SUPPORT. One lemma per shared operation of the decoder: the flags, narrowing, the region rules, the table. -/

namespace Sys2Proof.Machine

/-! ### Flags -/

theorem perm_flagBits (cfg : Byte) : FlagBits (perm cfg) cfg :=
  ⟨rfl, rfl, rfl, rfl, code_modeOf cfg⟩

theorem modeOf_napotByte (cfg : Byte) : modeOf (napotByte cfg) = .napot := by
  unfold modeOf modeOfCode napotByte; revert cfg; decide

/-- The ports of a sub-case select the NAPOT rule, whose region they show. -/
theorem regionOfPorts_napotPorts (a : Word) (d : DecIn) : regionOfPorts (napotPorts a d) = napotRegion a := by
  have h : modeOf (napotPorts a d).configByte = .napot := modeOf_napotByte d.configByte
  rw [regionOfPorts, h]; rfl

/-- The five bits determine the flags. -/
theorem FlagBits.eq_perm {f : Flags} {cfg : Byte} (h : FlagBits f cfg) : f = perm cfg := by
  obtain ⟨r, w, x, l, m⟩ := f
  obtain ⟨hr, hw, hx, hl, hm⟩ := h
  simp only at hr hw hx hl hm
  subst hr hw hx hl
  simp only [perm, modeOf, ← hm, modeOfCode_code]

theorem perm_has (cfg : Byte) (code : BitVec 2) (ty : AccessType) (h : accessTypeOf code = some ty) :
    (perm cfg).has ty = cfg.getLsbD code.toNat := by
  revert h; revert code; cases ty <;> (intro code; revert code; simp only [perm, Flags.has]; decide +revert)

theorem perm_permSet (cfg : Byte) : (perm cfg).permSet = cfg.extractLsb' 0 3 := by
  simp only [perm, Flags.permSet]; revert cfg; decide

theorem permSet_ne_zero {f : Flags} {ty : AccessType} (h : f.has ty = true) : f.permSet ≠ 0 := by
  obtain ⟨r, w, x, l, m⟩ := f
  revert h; cases ty <;> simp only [Flags.has, Flags.permSet] <;> revert r w x <;> decide

theorem accessTypeOf_eq_none (code : BitVec 2) : accessTypeOf code = none ↔ code = 3 := by
  revert code; decide

/-! ### Narrowing -/

theorem fits_iff (r : Region) : r.fits = true ↔ r.s ≤ 2 ^ 64 - 1 ∧ r.e ≤ 2 ^ 64 - 1 := by
  rw [Region.fits, Bool.and_eq_true, decide_eq_true_iff, decide_eq_true_iff]; rfl

theorem narrow_shows (tick : Nat) (who : DecoderId) (f : Flags) (r : Region) : Shows (narrow tick who f r) r.s r.e := by
  refine ⟨rfl, ?_, ?_⟩
  · have := fits_iff r
    cases h : r.fits <;> simp only [narrow, h, Bool.not_true, Bool.not_false, true_iff, Bool.false_eq_true, false_iff] <;>
      rw [h] at this <;> simp only [Bool.false_eq_true, false_iff, true_iff] at this <;> omega
  · intro h
    have hf : r.fits = true := by simpa [narrow] using h
    obtain ⟨hs, he⟩ := (fits_iff r).mp hf
    simp only [narrow, hf, if_true, BitVec.toNat_ofNat]
    exact ⟨Nat.mod_eq_of_lt (by omega), Nat.mod_eq_of_lt (by omega)⟩

@[simp] theorem narrow_flags (tick : Nat) (who : DecoderId) (f : Flags) (r : Region) : (narrow tick who f r).flags = f := rfl
@[simp] theorem narrow_region (tick : Nat) (who : DecoderId) (f : Flags) (r : Region) : (narrow tick who f r).region = r := rfl
@[simp] theorem narrow_rangeErr (tick : Nat) (who : DecoderId) (f : Flags) (r : Region) :
    (narrow tick who f r).rangeErr = !r.fits := rfl

/-- Of a region that fits, no free value is shown. -/
theorem narrow_of_fits (tick tick' : Nat) (who who' : DecoderId) (f : Flags) (r : Region) (h : r.fits = true) :
    narrow tick who f r = narrow tick' who' f r := by
  simp only [narrow, h, if_true]

/-! ### The region rules in plain arithmetic -/

theorem byteAddress_eq (a : Word) : byteAddress a = a.toNat * 4 := by
  simp [byteAddress, Config.addrShift, Nat.shiftLeft_eq]

theorem na4Region_eq (a : Word) : na4Region a = ⟨a.toNat * 4, a.toNat * 4 + 4⟩ := by
  simp [na4Region, regionAt, byteAddress_eq, Config.na4Size]

theorem napotFallbackRegion_eq (a : Word) : napotFallbackRegion a = ⟨a.toNat * 4, a.toNat * 4 + 4⟩ := by
  simp [napotFallbackRegion, regionAt, byteAddress_eq, Config.na4Size]

theorem torRegion_eq (d : DecIn) : torRegion (prevOperand d) d.addressRegister =
    ⟨if d.prevValid then d.prevAddressRegister.toNat * 4 else 0, d.addressRegister.toNat * 4⟩ := by
  cases h : d.prevValid <;> simp [torRegion, prevOperand, h, byteAddress_eq]

theorem napotGeneralRegion_eq (t : Nat) (a : Word) : napotGeneralRegion t a =
    ⟨a.toNat / 2 ^ t * 2 ^ (t + 2), a.toNat / 2 ^ t * 2 ^ (t + 2) + 2 ^ (t + 5)⟩ := by
  simp [napotGeneralRegion, regionAt, Nat.shiftLeft_eq, Nat.shiftRight_eq_div_pow, Config.addrShift, Config.napotBias,
    Config.napotGranuleLog2]

theorem napotAllRegion_eq : napotAllRegion = ⟨0, 2 ^ 64 - 1⟩ := rfl

/-- The three tests of the dispatch (R88) on a number of trailing ones. -/
theorem napotRegion_eq (a : Word) : napotRegion a =
    if cto a = 59 then napotAllRegion else if cto a = 0 then napotFallbackRegion a else napotGeneralRegion (cto a) a := by
  have h : (cto a + Config.napotBias = Config.addressWidth) = (cto a = 59) := by
    simp [Config.napotBias, Config.addrShift, Config.napotGranuleLog2, Config.addressWidth]
  simp only [napotRegion, h]

/-- Clearing the `cto a` trailing ones and shifting by 2 is dropping them and shifting by `cto a + 2` (R90). -/
theorem napotBase_eq (a : Word) : a.toNat / 2 ^ cto a * 2 ^ (cto a + 2) = (a.toNat - (2 ^ cto a - 1)) * 4 := by
  have h := Nat.div_add_mod a.toNat (2 ^ cto a)
  rw [mod_cto] at h
  rw [pow_add, ← Nat.mul_assoc, Nat.mul_comm (a.toNat / _)]
  generalize 2 ^ cto a * (a.toNat / 2 ^ cto a) = x at h ⊢
  omega

/-! ### A table -/

@[simp] theorem decodeFrom_length (tick index : Nat) (prev : Option Word) (es : List Entry) :
    (decodeFrom tick index prev es).length = es.length := by
  induction es generalizing index prev with
  | nil => rfl
  | cons e es ih => simp [decodeFrom, ih]

theorem decodeFrom_append (tick index : Nat) (prev : Option Word) (es fs : List Entry) :
    decodeFrom tick index prev (es ++ fs) = decodeFrom tick index prev es ++
      decodeFrom tick (index + es.length) ((es.getLast?.map (·.a)).or prev) fs := by
  induction es generalizing index prev with
  | nil => simp [decodeFrom]
  | cons e es ih =>
    rw [List.cons_append, decodeFrom, ih, decodeFrom, List.cons_append]
    cases es with
    | nil => simp
    | cons f es => simp [List.getLast?_cons, Nat.add_assoc, Nat.add_comm 1]

theorem prevOperand_decInOf (prev : Option Word) (e : Entry) : prevOperand (decInOf prev e) = prev := by
  cases prev <;> rfl

theorem decodePorts_decInOf (tick : Nat) (who : DecoderId) (prev : Option Word) (e : Entry) :
    decodePorts tick who (decInOf prev e) = narrow tick who (perm e.cfg) (regionOf (modeOf e.cfg) prev e.a) := by
  simp only [decodePorts, regionOfPorts, prevOperand_decInOf]; rfl

/-- The fold gives entry `k` its own decode, with the register before it. -/
theorem decodeFrom_getElem? (tick index : Nat) (prev : Option Word) (es : List Entry) (k : Nat) :
    (decodeFrom tick index prev es)[k]? = es[k]?.map fun e => narrow tick (.entry (index + k)) (perm e.cfg)
      (regionOf (modeOf e.cfg) (if k = 0 then prev else (es[k - 1]?).map (·.a)) e.a) := by
  induction es generalizing index prev k with
  | nil => simp [decodeFrom]
  | cons e es ih =>
    cases k with
    | zero => simp [decodeFrom, decodePorts_decInOf]
    | succ k =>
      rw [decodeFrom, List.getElem?_cons_succ, ih, List.getElem?_cons_succ]
      cases k with
      | zero => simp
      | succ k => simp [Nat.add_assoc, Nat.add_comm 1]

@[simp] theorem decodeTable_length (tick : Nat) (es : List Entry) : (decodeTable tick es).length = es.length :=
  decodeFrom_length tick 0 none es

/-- R97's closed form. -/
theorem decodeTable_getElem? (tick : Nat) (es : List Entry) (k : Nat) :
    (decodeTable tick es)[k]? = es[k]?.map fun e => narrow tick (.entry k) (perm e.cfg) (entryRegion es k e) := by
  rw [decodeTable, decodeFrom_getElem?]; simp only [Nat.zero_add, entryRegion, prevOf]

theorem decodeTable_entryOutputs (tick : Nat) (es : List Entry) : EntryOutputs es (decodeTable tick es) := by
  refine ⟨decodeTable_length tick es, fun k e h => ⟨_, by rw [decodeTable_getElem?, h]; rfl, ?_, ?_⟩⟩
  · exact perm_flagBits e.cfg
  · exact narrow_shows _ _ _ _

theorem mem_decodeTable (tick : Nat) (es : List Entry) (d : DecOut) :
    d ∈ decodeTable tick es ↔ ∃ k e, es[k]? = some e ∧ d = narrow tick (.entry k) (perm e.cfg) (entryRegion es k e) := by
  rw [List.mem_iff_getElem?]
  constructor
  · rintro ⟨k, h⟩
    rw [decodeTable_getElem?, Option.map_eq_some_iff] at h
    obtain ⟨e, he, hd⟩ := h
    exact ⟨k, e, he, hd.symm⟩
  · rintro ⟨k, e, he, rfl⟩
    exact ⟨k, by rw [decodeTable_getElem?, he]; rfl⟩

/-- Some entry has `range_err` exactly when the table does not fit. -/
theorem any_rangeErr_iff (tick : Nat) (es : List Entry) :
    (decodeTable tick es).any (·.rangeErr) = true ↔ ¬ TableFits es := by
  rw [List.any_eq_true]
  constructor
  · rintro ⟨d, hd, hr⟩ hf
    obtain ⟨k, e, he, rfl⟩ := (mem_decodeTable tick es d).mp hd
    rw [narrow_rangeErr, (fits_iff _).mpr (hf k e he)] at hr
    exact absurd hr (by simp)
  · intro h
    by_contra hno
    refine h fun k e he => (fits_iff _).mp ?_
    by_contra hfit
    exact hno ⟨_, (mem_decodeTable tick es _).mpr ⟨k, e, he, rfl⟩, by simpa using hfit⟩

/-- Of a table that fits, no free value is shown. -/
theorem decodeTable_of_fits (tick tick' : Nat) (es : List Entry) (h : TableFits es) :
    decodeTable tick es = decodeTable tick' es := by
  refine List.ext_getElem? fun k => ?_
  rw [decodeTable_getElem?, decodeTable_getElem?]
  cases he : es[k]? with
  | none => rfl
  | some e => simp only [Option.map_some]; rw [narrow_of_fits _ tick' _ (.entry k)]; exact (fits_iff _).mpr (h k e he)

end Sys2Proof.Machine
end

