-- ==== Sys2Proof/Laws/Resolver.lean ====
section
/-! SUPPORT. One lemma per shared operation of the resolver: containment, the scan, `err`, the result. -/

namespace Sys2Proof.Machine

theorem contains_iff_covers (r : Region) (q : ReqIn) : contains r q = true ↔ Covers r q := by
  unfold contains Covers offRegion
  by_cases h0 : r = ⟨0, 0⟩
  · simp [h0]
  · cases hv : q.reqSizeValid <;> simp [h0, containsPoint, containsSized]

/-! ### The scan -/

/-- What a scan that stops has found: the least index at or after its start whose region contains the access. -/
theorem scan_eq_some_iff (q : ReqIn) (index : Nat) (ds : List DecOut) (i : Nat) (f : Flags) :
    scan q index ds = some (i, f) ↔ ∃ k d, i = index + k ∧ ds[k]? = some d ∧ contains d.region q = true ∧ d.flags = f ∧
      ∀ j c, j < k → ds[j]? = some c → contains c.region q = false := by
  induction ds generalizing index with
  | nil => simp [scan]
  | cons d ds ih =>
    rw [scan]
    cases hc : contains d.region q with
    | true =>
      simp only [if_true, Option.some.injEq, Prod.mk.injEq]
      constructor
      · rintro ⟨rfl, rfl⟩
        exact ⟨0, d, rfl, rfl, hc, rfl, by omega⟩
      · rintro ⟨k, c, rfl, hk, hcc, rfl, hmin⟩
        cases k with
        | zero => simp only [List.getElem?_cons_zero, Option.some.injEq] at hk; subst hk; simp
        | succ k => have := hmin 0 d (by omega) rfl
                    rw [hc] at this; cases this
    | false =>
      simp only [Bool.false_eq_true, if_false, ih]
      constructor
      · rintro ⟨k, c, rfl, hk, hcc, hf, hmin⟩
        refine ⟨k + 1, c, by omega, by simpa using hk, hcc, hf, fun j b hj hb => ?_⟩
        cases j with
        | zero => simp only [List.getElem?_cons_zero, Option.some.injEq] at hb; subst hb; exact hc
        | succ j => exact hmin j b (by omega) (by simpa using hb)
      · rintro ⟨k, c, rfl, hk, hcc, hf, hmin⟩
        cases k with
        | zero => simp only [List.getElem?_cons_zero, Option.some.injEq] at hk; subst hk; rw [hc] at hcc; cases hcc
        | succ k => exact ⟨k, c, by omega, by simpa using hk, hcc, hf,
            fun j b hj hb => hmin (j + 1) b (by omega) (by simpa using hb)⟩

theorem scan_eq_none_iff (q : ReqIn) (index : Nat) (ds : List DecOut) :
    scan q index ds = none ↔ ∀ d ∈ ds, contains d.region q = false := by
  induction ds generalizing index with
  | nil => simp [scan]
  | cons d ds ih =>
    rw [scan]
    cases hc : contains d.region q <;> simp [hc, ih]

/-- A scan sees flags and regions only. -/
theorem scan_append (q : ReqIn) (index : Nat) (ds es : List DecOut) :
    scan q index (ds ++ es) = (scan q index ds).or (scan q (index + ds.length) es) := by
  induction ds generalizing index with
  | nil => simp [scan]
  | cons d ds ih =>
    rw [List.cons_append, scan, scan]
    cases contains d.region q with
    | true => simp
    | false => simp only [Bool.false_eq_true, if_false, ih, List.length_cons]
               rw [show index + 1 + ds.length = index + (ds.length + 1) by omega]

/-! ### err and the result -/

theorem sizeOverflows_iff (q : ReqIn) : sizeOverflows q = true ↔ ¬ InSpace q := by
  rw [sizeOverflows, Bool.and_eq_true, decide_eq_true_iff, InSpace, Classical.not_imp, Nat.not_le]; rfl

/-- `err` in R145's words. -/
theorem errOf_iff (q : ReqIn) (tick : Nat) (es : List Entry) :
    errOf q (decodeTable tick es) = true ↔ q.reqType = 3 ∨ ¬ InSpace q ∨ ¬ TableFits es := by
  rw [errOf, reqErr, Bool.or_eq_true, Bool.or_eq_true, any_rangeErr_iff, sizeOverflows_iff, Option.isNone_iff_eq_none,
    accessTypeOf_eq_none, or_assoc]

@[simp] theorem resultOf_err (p : NoMatchPolicy) (ty : AccessType) (m : Option (Nat × Flags)) :
    (resultOf p ty m).err = false := by
  rcases m with _ | ⟨i, f⟩ <;> rfl

/-- The two outcomes of RESOLVE (R117): an input error, or a scan's result. -/
theorem resolve_cases (p : NoMatchPolicy) (tick : Nat) (es : List Entry) (q : ReqIn) :
    (errOf q (decodeTable tick es) = true ∧ resolve p tick es q = inputError tick es.length) ∨
    (errOf q (decodeTable tick es) = false ∧ ∃ ty, accessTypeOf q.reqType = some ty ∧
      resolve p tick es q = resultOf p ty (scan q 0 (decodeTable tick es))) := by
  unfold resolve
  cases ht : accessTypeOf q.reqType with
  | none => left; exact ⟨by simp [errOf, reqErr, ht], rfl⟩
  | some ty =>
    cases he : errOf q (decodeTable tick es) with
    | true => left; exact ⟨rfl, by simp only [he, if_true]⟩
    | false => right; exact ⟨rfl, ty, rfl, by simp only [he, Bool.false_eq_true, if_false]⟩

theorem resolve_err (p : NoMatchPolicy) (tick : Nat) (es : List Entry) (q : ReqIn) :
    (resolve p tick es q).err = errOf q (decodeTable tick es) := by
  obtain ⟨he, hr⟩ | ⟨he, ty, -, hr⟩ := resolve_cases p tick es q <;> rw [hr, he]
  · rfl
  · exact resultOf_err ..

theorem resolve_err_iff (p : NoMatchPolicy) (tick : Nat) (es : List Entry) (q : ReqIn) :
    (resolve p tick es q).err = true ↔ q.reqType = 3 ∨ ¬ InSpace q ∨ ¬ TableFits es := by
  rw [resolve_err, errOf_iff]

/-- Without `err` the result is that of the scan. -/
theorem resolve_of_no_err {p : NoMatchPolicy} {tick : Nat} {es : List Entry} {q : ReqIn}
    (h : (resolve p tick es q).err = false) : ∃ ty, accessTypeOf q.reqType = some ty ∧ TableFits es ∧
      resolve p tick es q = resultOf p ty (scan q 0 (decodeTable tick es)) := by
  have hf : TableFits es := by
    by_contra hf
    rw [(resolve_err_iff p tick es q).mpr (.inr (.inr hf))] at h
    cases h
  rw [resolve_err] at h
  obtain ⟨he, -⟩ | ⟨-, ty, ht, hr⟩ := resolve_cases p tick es q
  · rw [he] at h; cases h
  · exact ⟨ty, ht, hf, hr⟩

/-- The result has one of the forms of R116. -/
theorem resolve_resultForm (p : NoMatchPolicy) (tick : Nat) (es : List Entry) (q : ReqIn) :
    ResultForm p (resolve p tick es q) := by
  intro h
  obtain ⟨ty, -, -, hr⟩ := resolve_of_no_err h
  rw [hr]
  rcases scan q 0 (decodeTable tick es) with _ | ⟨i, f⟩
  · exact ⟨rfl, rfl, rfl, by simp [resultOf]⟩
  · refine ⟨rfl, fun hb => ?_, fun hb => ?_⟩
    · have hb : f.has ty = true := hb
      simpa [resultOf, hb] using permSet_ne_zero hb
    · by_contra hno
      have hno : ¬ f.has ty = true := hno
      exact hb (by simp [resultOf, hno])

/-- `IDX_W` bits can name every entry. -/
theorem le_two_pow_idxWidth (n : Nat) : n ≤ 2 ^ Config.idxWidth n := by
  unfold Config.idxWidth
  split
  · omega
  · have := Nat.lt_log2_self (n := n - 1)
    omega

end Sys2Proof.Machine
end

