-- ==== Sys2Proof/Laws/Exec.lean ====
section
/-! SUPPORT. What each kind of evaluation leaves behind, and what a step does. -/

namespace Sys2Proof.Machine

/-- The eight request operations are one evaluation on their own ports. -/
theorem exec_requestOp (sv : Bool) (ty : BitVec 2) (A n : Word) (s : State) :
    exec (requestOp sv ty A n) s = .next (evalRequest (requestPorts sv ty A n) s) := by
  have h : ty = 0 ∨ ty = 1 ∨ ty = 2 ∨ ty = 3 := by revert ty; decide
  cases sv <;> rcases h with rfl | rfl | rfl | rfl <;> rfl

/-- The rows REGION.NAPOT.T1 to T58 are one evaluation, each with its own count. -/
theorem exec_napotRow (k : Nat) (a : Word) (s : State) (h1 : 1 ≤ k) (h2 : k ≤ 58) :
    exec (Instr.napotByCount k a) s = .next (evalNapotCase a (napotGeneralRegion k a) s) := by
  interval_cases k <;> rfl

/-- The ADDR row a register decodes to shows the region REGION.NAPOT gives the register. -/
theorem exec_decodeNapot (a : Word) (s : State) :
    exec (decodeNapot a) s = .next (evalNapotCase a (napotRegion a) s) := by
  rw [napotRegion_eq, decodeNapot]
  split
  · rename_i h; rw [h]; rfl
  · split
    · rename_i h; rw [h]; rfl
    · rcases Nat.lt_or_ge (cto a) 60 with h | h
      · exact exec_napotRow _ a s (by omega) (by omega)
      · rw [napotByCount_over _ a h (cto_le a)]; rfl

@[simp] theorem evalRegion_decOut (d : DecIn) (r : Region) (s : State) :
    (evalRegion d r s).decOut = narrow (s.tick + 1) .alone (perm d.configByte) r := rfl

@[simp] theorem evalNapotCase_decOut (a : Word) (r : Region) (s : State) :
    (evalNapotCase a r s).decOut = narrow (s.tick + 1) .alone (perm (napotByte s.decIn.configByte)) r := rfl

@[simp] theorem evalRequest_res (q : ReqIn) (s : State) :
    (evalRequest q s).res = resolve s.policy (s.tick + 1) s.table q := rfl

@[simp] theorem evalRequest_ent (q : ReqIn) (s : State) :
    (evalRequest q s).ent = decodeTable (s.tick + 1) s.table := rfl

@[simp] theorem evalTable_ent (es : List Entry) (s : State) : (evalTable es s).ent = decodeTable (s.tick + 1) es := rfl

/-! ### Frames -/

theorem evalRegion_frame (d : DecIn) (r : Region) (s : State) : DecoderFrame s (evalRegion d r s) :=
  ⟨rfl, rfl, rfl, rfl, rfl, rfl, rfl⟩

theorem evalPerm_frame (cfg : Byte) (s : State) : DecoderFrame s (evalPerm cfg s) := evalRegion_frame _ _ s

theorem evalNapotCase_frame (a : Word) (r : Region) (s : State) : SubcaseFrame a s (evalNapotCase a r s) :=
  ⟨rfl, perm_flagBits _, modeOf_napotByte _, evalRegion_frame _ _ s⟩

theorem evalRequest_frame (q : ReqIn) (s : State) : ResolverFrame s (evalRequest q s) :=
  ⟨rfl, rfl, rfl, rfl, rfl, rfl⟩

/-! ### Every output after an evaluation -/

/-- Driving the outputs with the region of the ports makes every output the function of the inputs. -/
theorem drive_outputsOfInputs (s : State) : OutputsOfInputs (s.drive (regionOfPorts s.decIn)) := ⟨rfl, rfl, rfl⟩

theorem evalRegion_outputsOfInputs (d : DecIn) (s : State) : OutputsOfInputs (evalRegion d (regionOfPorts d) s) :=
  drive_outputsOfInputs (s.nextTick.setDecIn d)

theorem evalTable_outputsOfInputs (es : List Entry) (s : State) : OutputsOfInputs (evalTable es s) :=
  drive_outputsOfInputs (s.nextTick.setTable es)

theorem evalRequest_outputsOfInputs (q : ReqIn) (s : State) : OutputsOfInputs (evalRequest q s) :=
  drive_outputsOfInputs (s.nextTick.setReq q)

/-- Taking the presented word changes no port. -/
theorem setProgram_outputsOfInputs (os : List OpWord) {s : State} (h : OutputsOfInputs s) :
    OutputsOfInputs (s.setProgram os) := ⟨h.decoder, h.entries, h.result⟩

/-- Outputs that are the function of the inputs meet the whole invariant. -/
theorem OutputsOfInputs.inv {s : State} (h : OutputsOfInputs s) : Inv s where
  outputs := h
  flags := h.decoder ▸ perm_flagBits _
  bounds := h.decoder ▸ narrow_shows _ _ _ _
  entries := h.entries ▸ decodeTable_entryOutputs _ _
  errors := h.result ▸ resolve_err_iff _ _ _ _
  result := h.result ▸ resolve_resultForm _ _ _ _

/-! ### The kinds of evaluation -/

/-- A well-formed NAPOT sub-case is the one its register selects. -/
theorem exec_of_decodeNapot {i : Instr} {a : Word} {s t : State} (hi : decodeNapot a = i)
    (h : exec i s = .next t) : ∃ d, t = evalRegion d (regionOfPorts d) s := by
  rw [← hi, exec_decodeNapot, evalNapotCase, ← regionOfPorts_napotPorts a s.decIn] at h
  injection h with h
  exact ⟨_, h.symm⟩

/-- What a well-formed operation can do, once and for all: it presents a decoder's ports, a table or a request, and
every output follows. -/
theorem exec_cases {i : Instr} {s t : State} (hw : WellFormed i) (h : exec i s = .next t) :
    (∃ d, t = evalRegion d (regionOfPorts d) s) ∨ (∃ es, i = .decodeAll es ∧ t = evalTable es s) ∨
      ∃ q, t = evalRequest q s := by
  cases i
  case perm cfg => injection h with h; exact .inl ⟨_, h.symm⟩
  case decodeEntry d => injection h with h; exact .inl ⟨d, h.symm⟩
  case regionOff d => injection h with h; exact .inl ⟨d, by rw [← h, regionOfPorts, (cfgMatches_iff .off _).mp hw]; rfl⟩
  case regionTor d => injection h with h; exact .inl ⟨d, by rw [← h, regionOfPorts, (cfgMatches_iff .tor _).mp hw]; rfl⟩
  case regionNa4 d => injection h with h; exact .inl ⟨d, by rw [← h, regionOfPorts, (cfgMatches_iff .na4 _).mp hw]; rfl⟩
  case regionNapot d =>
    injection h with h; exact .inl ⟨d, by rw [← h, regionOfPorts, (cfgMatches_iff .napot _).mp hw]; rfl⟩
  case decodeAll es => injection h with h; exact .inr (.inl ⟨_, rfl, h.symm⟩)
  case resolvePR | resolvePW | resolvePX | resolveSR | resolveSW | resolveSX | reservedP3 | reservedS3 =>
    injection h with h; exact .inr (.inr ⟨_, h.symm⟩)
  case regionNapotOver a =>
    refine .inl (exec_of_decodeNapot (a := a) ?_ h)
    rw [decodeNapot, napotByCount_over _ a ((addrMatchesOver_iff a).mp hw) (cto_le a)]
  all_goals exact .inl (exec_of_decodeNapot (decodeNapot_of_matches (by decide) hw) h)

/-- After a well-formed operation every output is the function of the inputs, whatever stood on the ports before. -/
theorem exec_outputsOfInputs {i : Instr} {s t : State} (hw : WellFormed i) (h : exec i s = .next t) :
    OutputsOfInputs t := by
  obtain ⟨d, rfl⟩ | ⟨es, -, rfl⟩ | ⟨q, rfl⟩ := exec_cases hw h
  · exact evalRegion_outputsOfInputs d s
  · exact evalTable_outputsOfInputs es s
  · exact evalRequest_outputsOfInputs q s

/-- What decodes is well-formed. -/
theorem decode_wellFormed {o : OpWord} {i : Instr} (h : decode o = .ok i) : WellFormed i := by
  obtain ⟨-, rfl⟩ := decode_eq_ok h
  cases o.form
  case perm | entry | table => rfl
  case region => exact decodeRegion_wellFormed _
  case napot => exact decodeNapot_wellFormed _
  case request => exact decodeReq_wellFormed _ _ _

/-- What a step that goes on has done: it ran the operation presented, or decoded the table. -/
theorem step_cases {s t : State} (h : step s = .next t) :
    (s.program = [] ∧ exec (.decodeAll s.table) s = .next t) ∨
    ∃ o rest i, s.program = o :: rest ∧ decode o = .ok i ∧ exec i (s.setProgram rest) = .next t := by
  unfold step fetch at h
  cases hp : s.program with
  | nil => rw [hp] at h; exact .inl ⟨rfl, h⟩
  | cons o rest =>
    rw [hp] at h
    simp only at h
    cases hd : decode o with
    | ok i => rw [hd] at h; exact .inr ⟨o, rest, i, rfl, hd, h⟩
    | error e => rw [hd] at h; cases h

/-- A step runs a well-formed operation on the state or on the state without the word taken. -/
theorem step_wellFormed {s t : State} (h : step s = .next t) :
    ∃ i os, WellFormed i ∧ exec i (s.setProgram os) = .next t := by
  obtain ⟨hp, h⟩ | ⟨o, rest, i, -, hd, h⟩ := step_cases h
  · exact ⟨.decodeAll s.table, [], rfl, by rw [show s.setProgram [] = s by rw [← hp]; rfl]; exact h⟩
  · exact ⟨i, rest, decode_wellFormed hd, h⟩

end Sys2Proof.Machine
end

