-- ==== Sys2Proof/Laws/PerInstr.lean ====
section
/-! SUPPORT. The family of statements made per instruction. -/

namespace Sys2Proof.Laws

/-- The word of `i` has no bit beyond its format's length (spec/30_encoding.md R71). -/
def EncodeFits.Statement (i : Instr) : Prop := (encode i).bits < 2 ^ (encode i).form.width

theorem EncodeFits.perm (cfg : Byte) : Statement (.perm cfg) := cfg.isLt
theorem EncodeFits.regionOff (d : DecIn) : Statement (.regionOff d) := packDecIn_lt d
theorem EncodeFits.regionTor (d : DecIn) : Statement (.regionTor d) := packDecIn_lt d
theorem EncodeFits.regionNa4 (d : DecIn) : Statement (.regionNa4 d) := packDecIn_lt d
theorem EncodeFits.regionNapot (d : DecIn) : Statement (.regionNapot d) := packDecIn_lt d
theorem EncodeFits.regionNapotFallback (a : Word) : Statement (.regionNapotFallback a) := a.isLt
theorem EncodeFits.regionNapotT1 (a : Word) : Statement (.regionNapotT1 a) := a.isLt
theorem EncodeFits.regionNapotT2 (a : Word) : Statement (.regionNapotT2 a) := a.isLt
theorem EncodeFits.regionNapotT3 (a : Word) : Statement (.regionNapotT3 a) := a.isLt
theorem EncodeFits.regionNapotT4 (a : Word) : Statement (.regionNapotT4 a) := a.isLt
theorem EncodeFits.regionNapotT5 (a : Word) : Statement (.regionNapotT5 a) := a.isLt
theorem EncodeFits.regionNapotT6 (a : Word) : Statement (.regionNapotT6 a) := a.isLt
theorem EncodeFits.regionNapotT7 (a : Word) : Statement (.regionNapotT7 a) := a.isLt
theorem EncodeFits.regionNapotT8 (a : Word) : Statement (.regionNapotT8 a) := a.isLt
theorem EncodeFits.regionNapotT9 (a : Word) : Statement (.regionNapotT9 a) := a.isLt
theorem EncodeFits.regionNapotT10 (a : Word) : Statement (.regionNapotT10 a) := a.isLt
theorem EncodeFits.regionNapotT11 (a : Word) : Statement (.regionNapotT11 a) := a.isLt
theorem EncodeFits.regionNapotT12 (a : Word) : Statement (.regionNapotT12 a) := a.isLt
theorem EncodeFits.regionNapotT13 (a : Word) : Statement (.regionNapotT13 a) := a.isLt
theorem EncodeFits.regionNapotT14 (a : Word) : Statement (.regionNapotT14 a) := a.isLt
theorem EncodeFits.regionNapotT15 (a : Word) : Statement (.regionNapotT15 a) := a.isLt
theorem EncodeFits.regionNapotT16 (a : Word) : Statement (.regionNapotT16 a) := a.isLt
theorem EncodeFits.regionNapotT17 (a : Word) : Statement (.regionNapotT17 a) := a.isLt
theorem EncodeFits.regionNapotT18 (a : Word) : Statement (.regionNapotT18 a) := a.isLt
theorem EncodeFits.regionNapotT19 (a : Word) : Statement (.regionNapotT19 a) := a.isLt
theorem EncodeFits.regionNapotT20 (a : Word) : Statement (.regionNapotT20 a) := a.isLt
theorem EncodeFits.regionNapotT21 (a : Word) : Statement (.regionNapotT21 a) := a.isLt
theorem EncodeFits.regionNapotT22 (a : Word) : Statement (.regionNapotT22 a) := a.isLt
theorem EncodeFits.regionNapotT23 (a : Word) : Statement (.regionNapotT23 a) := a.isLt
theorem EncodeFits.regionNapotT24 (a : Word) : Statement (.regionNapotT24 a) := a.isLt
theorem EncodeFits.regionNapotT25 (a : Word) : Statement (.regionNapotT25 a) := a.isLt
theorem EncodeFits.regionNapotT26 (a : Word) : Statement (.regionNapotT26 a) := a.isLt
theorem EncodeFits.regionNapotT27 (a : Word) : Statement (.regionNapotT27 a) := a.isLt
theorem EncodeFits.regionNapotT28 (a : Word) : Statement (.regionNapotT28 a) := a.isLt
theorem EncodeFits.regionNapotT29 (a : Word) : Statement (.regionNapotT29 a) := a.isLt
theorem EncodeFits.regionNapotT30 (a : Word) : Statement (.regionNapotT30 a) := a.isLt
theorem EncodeFits.regionNapotT31 (a : Word) : Statement (.regionNapotT31 a) := a.isLt
theorem EncodeFits.regionNapotT32 (a : Word) : Statement (.regionNapotT32 a) := a.isLt
theorem EncodeFits.regionNapotT33 (a : Word) : Statement (.regionNapotT33 a) := a.isLt
theorem EncodeFits.regionNapotT34 (a : Word) : Statement (.regionNapotT34 a) := a.isLt
theorem EncodeFits.regionNapotT35 (a : Word) : Statement (.regionNapotT35 a) := a.isLt
theorem EncodeFits.regionNapotT36 (a : Word) : Statement (.regionNapotT36 a) := a.isLt
theorem EncodeFits.regionNapotT37 (a : Word) : Statement (.regionNapotT37 a) := a.isLt
theorem EncodeFits.regionNapotT38 (a : Word) : Statement (.regionNapotT38 a) := a.isLt
theorem EncodeFits.regionNapotT39 (a : Word) : Statement (.regionNapotT39 a) := a.isLt
theorem EncodeFits.regionNapotT40 (a : Word) : Statement (.regionNapotT40 a) := a.isLt
theorem EncodeFits.regionNapotT41 (a : Word) : Statement (.regionNapotT41 a) := a.isLt
theorem EncodeFits.regionNapotT42 (a : Word) : Statement (.regionNapotT42 a) := a.isLt
theorem EncodeFits.regionNapotT43 (a : Word) : Statement (.regionNapotT43 a) := a.isLt
theorem EncodeFits.regionNapotT44 (a : Word) : Statement (.regionNapotT44 a) := a.isLt
theorem EncodeFits.regionNapotT45 (a : Word) : Statement (.regionNapotT45 a) := a.isLt
theorem EncodeFits.regionNapotT46 (a : Word) : Statement (.regionNapotT46 a) := a.isLt
theorem EncodeFits.regionNapotT47 (a : Word) : Statement (.regionNapotT47 a) := a.isLt
theorem EncodeFits.regionNapotT48 (a : Word) : Statement (.regionNapotT48 a) := a.isLt
theorem EncodeFits.regionNapotT49 (a : Word) : Statement (.regionNapotT49 a) := a.isLt
theorem EncodeFits.regionNapotT50 (a : Word) : Statement (.regionNapotT50 a) := a.isLt
theorem EncodeFits.regionNapotT51 (a : Word) : Statement (.regionNapotT51 a) := a.isLt
theorem EncodeFits.regionNapotT52 (a : Word) : Statement (.regionNapotT52 a) := a.isLt
theorem EncodeFits.regionNapotT53 (a : Word) : Statement (.regionNapotT53 a) := a.isLt
theorem EncodeFits.regionNapotT54 (a : Word) : Statement (.regionNapotT54 a) := a.isLt
theorem EncodeFits.regionNapotT55 (a : Word) : Statement (.regionNapotT55 a) := a.isLt
theorem EncodeFits.regionNapotT56 (a : Word) : Statement (.regionNapotT56 a) := a.isLt
theorem EncodeFits.regionNapotT57 (a : Word) : Statement (.regionNapotT57 a) := a.isLt
theorem EncodeFits.regionNapotT58 (a : Word) : Statement (.regionNapotT58 a) := a.isLt
theorem EncodeFits.regionNapotAll (a : Word) : Statement (.regionNapotAll a) := a.isLt
theorem EncodeFits.regionNapotOver (a : Word) : Statement (.regionNapotOver a) := a.isLt
theorem EncodeFits.decodeEntry (d : DecIn) : Statement (.decodeEntry d) := packDecIn_lt d
theorem EncodeFits.decodeAll (table : List Entry) : Statement (.decodeAll table) := packTable_lt table
theorem EncodeFits.resolvePR (address size : Word) : Statement (.resolvePR address size) := packReq_lt 0 (by omega) address size
theorem EncodeFits.resolvePW (address size : Word) : Statement (.resolvePW address size) := packReq_lt 1 (by omega) address size
theorem EncodeFits.resolvePX (address size : Word) : Statement (.resolvePX address size) := packReq_lt 2 (by omega) address size
theorem EncodeFits.resolveSR (address size : Word) : Statement (.resolveSR address size) := packReq_lt 4 (by omega) address size
theorem EncodeFits.resolveSW (address size : Word) : Statement (.resolveSW address size) := packReq_lt 5 (by omega) address size
theorem EncodeFits.resolveSX (address size : Word) : Statement (.resolveSX address size) := packReq_lt 6 (by omega) address size
theorem EncodeFits.reservedP3 (address size : Word) : Statement (.reservedP3 address size) := packReq_lt 3 (by omega) address size
theorem EncodeFits.reservedS3 (address size : Word) : Statement (.reservedS3 address size) := packReq_lt 7 (by omega) address size

end Sys2Proof.Laws
end

