-- ==== Sys2Proof/Tests/Slice0.lean ====
section
/-! SUPPORT. The model's own tests. Words are written out from spec/30_encoding.md R60, R63, R64 and
spec/opcode_table.json, expected results from spec/95_test_vectors.md (the vector is named at each test). -/

namespace Sys2Proof.Tests

open Sys2Proof.Machine

/-! ### Ill-formed terms are refused -/

theorem test_wf_refuses_region_off_of_a_tor_byte : (Instr.regionOff ⟨0, 0x0F, false, 0⟩).wf = false := by decide
theorem test_wf_refuses_region_tor_of_an_off_byte : (Instr.regionTor ⟨0, 0x07, false, 0⟩).wf = false := by decide
theorem test_wf_refuses_region_na4_of_a_napot_byte : (Instr.regionNa4 ⟨0, 0x18, false, 0⟩).wf = false := by decide
theorem test_wf_refuses_region_napot_of_an_na4_byte : (Instr.regionNapot ⟨0, 0x10, false, 0⟩).wf = false := by decide
theorem test_wf_refuses_fallback_of_an_odd_register : (Instr.regionNapotFallback 0x401).wf = false := by decide
theorem test_wf_refuses_rows_of_an_even_register :
    ∀ k : Fin 60, k ≠ 0 → (Instr.napotByCount k.val 0x400).wf = false := by decide
theorem test_wf_refuses_rows_of_one_more_one :
    ∀ k : Fin 60, (Instr.napotByCount k.val (BitVec.ofNat 64 (2 ^ (k.val + 1) - 1))).wf = false := by decide
theorem test_wf_refuses_over_of_59_ones : (Instr.regionNapotOver 0x07FFFFFFFFFFFFFF).wf = false := by decide

/-! ### Words decode to the operations they stand for -/

/-- PERM is selected by every byte; the byte is R80's example. -/
theorem test_decode_perm : decode ⟨.perm, 0b1_00_11_011⟩ = .ok (.perm 0x9B) := by rfl
/-- `luv00xwr` with every other bit 1, all-ones registers (R61). -/
theorem test_decode_region_off : decode ⟨.region, 2 ^ 137 - 1 - 0b11000⟩ = .ok (.regionOff ⟨BitVec.allOnes 64, 0xE7, true, BitVec.allOnes 64⟩) := by rfl
/-- `luv01xwr`; register at 71:8, prev_valid at 72, previous register from 73 (log 4). -/
theorem test_decode_region_tor :
    decode ⟨.region, 0b00001111 + 0x400 <<< 8 + 1 <<< 72 + 0x100 <<< 73⟩ = .ok (.regionTor ⟨0x400, 0x0F, true, 0x100⟩) := by rfl
/-- `luv10xwr`. -/
theorem test_decode_region_na4 : decode ⟨.region, 0b00010001 + 0x47F <<< 8⟩ = .ok (.regionNa4 ⟨0x47F, 0x11, false, 0⟩) := by rfl
/-- `luv11xwr`. -/
theorem test_decode_region_napot : decode ⟨.region, 0b11111001 + 0x7 <<< 8⟩ = .ok (.regionNapot ⟨0x7, 0xF9, false, 0⟩) := by rfl
/-- A word for DECODE: any byte, any register. -/
theorem test_decode_entry : decode ⟨.entry, 0x19 + 0x47F <<< 8⟩ = .ok (.decodeEntry ⟨0x47F, 0x19, false, 0⟩) := by rfl
/-- The table of VD2, entry 0 in the low 72 bits (log 4). -/
theorem test_decode_table : decode ⟨.table 2, (0x00 + 0x100 <<< 8) + (0x0F + 0x400 <<< 8) <<< 72⟩ =
    .ok (.decodeAll [⟨0x100, 0x00⟩, ⟨0x400, 0x0F⟩]) := by rfl
theorem test_decode_empty_table : decode ⟨.table 0, 0⟩ = .ok (.decodeAll []) := by rfl
/-- R64's eight request opcodes, address 0x1000 from bit 3, size 4 from bit 67. -/
theorem test_decode_requests :
    [0b000, 0b001, 0b010, 0b011, 0b100, 0b101, 0b110, 0b111].map
        (fun op => (decode ⟨.request, op + 0x1000 <<< 3 + 4 <<< 67⟩).toOption) =
      [some (.resolvePR 0x1000 4), some (.resolvePW 0x1000 4), some (.resolvePX 0x1000 4), some (.reservedP3 0x1000 4),
        some (.resolveSR 0x1000 4), some (.resolveSW 0x1000 4), some (.resolveSX 0x1000 4), some (.reservedS3 0x1000 4)] := by rfl

/-! ADDR words with every `y` bit 1: bit `t` alone is 0 (R63). -/

theorem test_decode_napot_words_from_0 :
    [0xFFFFFFFFFFFFFFFE, 0xFFFFFFFFFFFFFFFD, 0xFFFFFFFFFFFFFFFB, 0xFFFFFFFFFFFFFFF7,
      0xFFFFFFFFFFFFFFEF, 0xFFFFFFFFFFFFFFDF, 0xFFFFFFFFFFFFFFBF, 0xFFFFFFFFFFFFFF7F].map (decodeTableWord 64) =
    [some (.regionNapotFallback 0xFFFFFFFFFFFFFFFE),
      some (.regionNapotT1 0xFFFFFFFFFFFFFFFD),
      some (.regionNapotT2 0xFFFFFFFFFFFFFFFB),
      some (.regionNapotT3 0xFFFFFFFFFFFFFFF7),
      some (.regionNapotT4 0xFFFFFFFFFFFFFFEF),
      some (.regionNapotT5 0xFFFFFFFFFFFFFFDF),
      some (.regionNapotT6 0xFFFFFFFFFFFFFFBF),
      some (.regionNapotT7 0xFFFFFFFFFFFFFF7F)] := by rfl
theorem test_decode_napot_words_from_8 :
    [0xFFFFFFFFFFFFFEFF, 0xFFFFFFFFFFFFFDFF, 0xFFFFFFFFFFFFFBFF, 0xFFFFFFFFFFFFF7FF,
      0xFFFFFFFFFFFFEFFF, 0xFFFFFFFFFFFFDFFF, 0xFFFFFFFFFFFFBFFF, 0xFFFFFFFFFFFF7FFF].map (decodeTableWord 64) =
    [some (.regionNapotT8 0xFFFFFFFFFFFFFEFF),
      some (.regionNapotT9 0xFFFFFFFFFFFFFDFF),
      some (.regionNapotT10 0xFFFFFFFFFFFFFBFF),
      some (.regionNapotT11 0xFFFFFFFFFFFFF7FF),
      some (.regionNapotT12 0xFFFFFFFFFFFFEFFF),
      some (.regionNapotT13 0xFFFFFFFFFFFFDFFF),
      some (.regionNapotT14 0xFFFFFFFFFFFFBFFF),
      some (.regionNapotT15 0xFFFFFFFFFFFF7FFF)] := by rfl
theorem test_decode_napot_words_from_16 :
    [0xFFFFFFFFFFFEFFFF, 0xFFFFFFFFFFFDFFFF, 0xFFFFFFFFFFFBFFFF, 0xFFFFFFFFFFF7FFFF,
      0xFFFFFFFFFFEFFFFF, 0xFFFFFFFFFFDFFFFF, 0xFFFFFFFFFFBFFFFF, 0xFFFFFFFFFF7FFFFF].map (decodeTableWord 64) =
    [some (.regionNapotT16 0xFFFFFFFFFFFEFFFF),
      some (.regionNapotT17 0xFFFFFFFFFFFDFFFF),
      some (.regionNapotT18 0xFFFFFFFFFFFBFFFF),
      some (.regionNapotT19 0xFFFFFFFFFFF7FFFF),
      some (.regionNapotT20 0xFFFFFFFFFFEFFFFF),
      some (.regionNapotT21 0xFFFFFFFFFFDFFFFF),
      some (.regionNapotT22 0xFFFFFFFFFFBFFFFF),
      some (.regionNapotT23 0xFFFFFFFFFF7FFFFF)] := by rfl
theorem test_decode_napot_words_from_24 :
    [0xFFFFFFFFFEFFFFFF, 0xFFFFFFFFFDFFFFFF, 0xFFFFFFFFFBFFFFFF, 0xFFFFFFFFF7FFFFFF,
      0xFFFFFFFFEFFFFFFF, 0xFFFFFFFFDFFFFFFF, 0xFFFFFFFFBFFFFFFF, 0xFFFFFFFF7FFFFFFF].map (decodeTableWord 64) =
    [some (.regionNapotT24 0xFFFFFFFFFEFFFFFF),
      some (.regionNapotT25 0xFFFFFFFFFDFFFFFF),
      some (.regionNapotT26 0xFFFFFFFFFBFFFFFF),
      some (.regionNapotT27 0xFFFFFFFFF7FFFFFF),
      some (.regionNapotT28 0xFFFFFFFFEFFFFFFF),
      some (.regionNapotT29 0xFFFFFFFFDFFFFFFF),
      some (.regionNapotT30 0xFFFFFFFFBFFFFFFF),
      some (.regionNapotT31 0xFFFFFFFF7FFFFFFF)] := by rfl
theorem test_decode_napot_words_from_32 :
    [0xFFFFFFFEFFFFFFFF, 0xFFFFFFFDFFFFFFFF, 0xFFFFFFFBFFFFFFFF, 0xFFFFFFF7FFFFFFFF,
      0xFFFFFFEFFFFFFFFF, 0xFFFFFFDFFFFFFFFF, 0xFFFFFFBFFFFFFFFF, 0xFFFFFF7FFFFFFFFF].map (decodeTableWord 64) =
    [some (.regionNapotT32 0xFFFFFFFEFFFFFFFF),
      some (.regionNapotT33 0xFFFFFFFDFFFFFFFF),
      some (.regionNapotT34 0xFFFFFFFBFFFFFFFF),
      some (.regionNapotT35 0xFFFFFFF7FFFFFFFF),
      some (.regionNapotT36 0xFFFFFFEFFFFFFFFF),
      some (.regionNapotT37 0xFFFFFFDFFFFFFFFF),
      some (.regionNapotT38 0xFFFFFFBFFFFFFFFF),
      some (.regionNapotT39 0xFFFFFF7FFFFFFFFF)] := by rfl
theorem test_decode_napot_words_from_40 :
    [0xFFFFFEFFFFFFFFFF, 0xFFFFFDFFFFFFFFFF, 0xFFFFFBFFFFFFFFFF, 0xFFFFF7FFFFFFFFFF,
      0xFFFFEFFFFFFFFFFF, 0xFFFFDFFFFFFFFFFF, 0xFFFFBFFFFFFFFFFF, 0xFFFF7FFFFFFFFFFF].map (decodeTableWord 64) =
    [some (.regionNapotT40 0xFFFFFEFFFFFFFFFF),
      some (.regionNapotT41 0xFFFFFDFFFFFFFFFF),
      some (.regionNapotT42 0xFFFFFBFFFFFFFFFF),
      some (.regionNapotT43 0xFFFFF7FFFFFFFFFF),
      some (.regionNapotT44 0xFFFFEFFFFFFFFFFF),
      some (.regionNapotT45 0xFFFFDFFFFFFFFFFF),
      some (.regionNapotT46 0xFFFFBFFFFFFFFFFF),
      some (.regionNapotT47 0xFFFF7FFFFFFFFFFF)] := by rfl
theorem test_decode_napot_words_from_48 :
    [0xFFFEFFFFFFFFFFFF, 0xFFFDFFFFFFFFFFFF, 0xFFFBFFFFFFFFFFFF, 0xFFF7FFFFFFFFFFFF,
      0xFFEFFFFFFFFFFFFF, 0xFFDFFFFFFFFFFFFF, 0xFFBFFFFFFFFFFFFF, 0xFF7FFFFFFFFFFFFF].map (decodeTableWord 64) =
    [some (.regionNapotT48 0xFFFEFFFFFFFFFFFF),
      some (.regionNapotT49 0xFFFDFFFFFFFFFFFF),
      some (.regionNapotT50 0xFFFBFFFFFFFFFFFF),
      some (.regionNapotT51 0xFFF7FFFFFFFFFFFF),
      some (.regionNapotT52 0xFFEFFFFFFFFFFFFF),
      some (.regionNapotT53 0xFFDFFFFFFFFFFFFF),
      some (.regionNapotT54 0xFFBFFFFFFFFFFFFF),
      some (.regionNapotT55 0xFF7FFFFFFFFFFFFF)] := by rfl
theorem test_decode_napot_words_from_56 :
    [0xFEFFFFFFFFFFFFFF, 0xFDFFFFFFFFFFFFFF, 0xFBFFFFFFFFFFFFFF, 0xF7FFFFFFFFFFFFFF,
      0xEFFFFFFFFFFFFFFF, 0xFFFFFFFFFFFFFFFF].map (decodeTableWord 64) =
    [some (.regionNapotT56 0xFEFFFFFFFFFFFFFF),
      some (.regionNapotT57 0xFDFFFFFFFFFFFFFF),
      some (.regionNapotT58 0xFBFFFFFFFFFFFFFF),
      some (.regionNapotAll 0xF7FFFFFFFFFFFFFF),
      some (.regionNapotOver 0xEFFFFFFFFFFFFFFF),
      some (.regionNapotOver 0xFFFFFFFFFFFFFFFF)] := by rfl

/-- The match column of the table, `y` bits 0: the row of `t` ones at `2^t - 1`. -/
theorem test_decode_napot_match_words :
    ∀ k : Fin 61, decodeTableWord 64 (2 ^ k.val - 1) = some (Instr.napotByCount k.val (BitVec.ofNat 64 (2 ^ k.val - 1))) := by
  decide
theorem test_decode_table_bytes :
    [0x08, 0x10, 0x18].map (decodeTableWord 8) = [some (.regionTor ⟨0, 0x08, false, 0⟩),
      some (.regionNa4 ⟨0, 0x10, false, 0⟩), some (.regionNapot ⟨0, 0x18, false, 0⟩)] := by rfl
theorem test_decode_table_request_bytes :
    [1, 2, 3, 4, 5, 6, 7].map (decodeTableWord 8) = [some (.resolvePW 0 0), some (.resolvePX 0 0),
      some (.reservedP3 0 0), some (.resolveSR 0 0), some (.resolveSW 0 0), some (.resolveSX 0 0),
      some (.reservedS3 0 0)] := by rfl
theorem test_decode_refuses_a_wide_word : decode ⟨.perm, 0x100⟩ = .error (.tooWide .perm) := by rfl

/-! ### One evaluation on a small state -/

/-- The state after an outcome, if it goes on. -/
def after : Host.Outcome State Fault Refusal → Option State
  | .next s => some s
  | .fault _ => none
  | .refused _ => none

/-- A table, and the policy DENY. -/
def onTable (table : List Entry) : State := { State.reset with table := table, policy := .deny }

/-- What the decoder's ports show: the exact region and `range_err`, and the bound ports. -/
def bounds (i : Instr) : Option (Region × Bool) :=
  (after (exec i (onTable []))).map fun s => (s.decOut.region, s.decOut.rangeErr)

def ports (i : Instr) : Option (Word × Word) :=
  (after (exec i (onTable []))).map fun s => (s.decOut.start, s.decOut.endPort)

def result (table : List Entry) (i : Instr) : Option ResOut := (after (exec i (onTable table))).map (·.res)

def flagsOf (i : Instr) : Option Flags := (after (exec i (onTable []))).map (·.decOut.flags)

/-- VP18. -/
theorem test_perm : flagsOf (.perm 0x9B) = some ⟨true, true, false, true, .napot⟩ := by decide
/-- VP3, VP13 to VP16: W alone, the ignored bits, L alone. -/
theorem test_perm_other_bits : flagsOf (.perm 0x62) = some ⟨false, true, false, false, .off⟩ ∧
    flagsOf (.perm 0x8C) = some ⟨false, false, true, true, .tor⟩ := by decide
/-- VO4. -/
theorem test_region_off : bounds (.regionOff ⟨0xABCD, 0xE7, true, 5⟩) = some (⟨0, 0⟩, false) ∧
    flagsOf (.regionOff ⟨0xABCD, 0xE7, true, 5⟩) = some ⟨true, true, true, true, .off⟩ := by decide
/-- VT8 and VT5. -/
theorem test_region_tor : ports (.regionTor ⟨0x401, 0x09, true, 0x3FF⟩) = some (0xFFC, 0x1004) ∧
    ports (.regionTor ⟨0x100, 0x08, true, 0x400⟩) = some (0x1000, 0x400) := by decide
/-- VT11, VT12, VT13: the largest register without `range_err`, the smallest with it, the previous register's doing. -/
theorem test_region_tor_range_err :
    bounds (.regionTor ⟨0x3FFFFFFFFFFFFFFF, 0x08, false, 0⟩) = some (⟨0, 0xFFFFFFFFFFFFFFFC⟩, false) ∧
    bounds (.regionTor ⟨0x4000000000000000, 0x08, false, 0⟩) = some (⟨0, 0x10000000000000000⟩, true) ∧
    bounds (.regionTor ⟨0x10, 0x08, true, 0x4000000000000000⟩) = some (⟨0x10000000000000000, 0x40⟩, true) := by decide
/-- VA4. -/
theorem test_region_na4 : ports (.regionNa4 ⟨0x47F, 0x11, false, 0⟩) = some (0x11FC, 0x1200) := by decide
/-- VA6, VA7. -/
theorem test_region_na4_range_err :
    bounds (.regionNa4 ⟨0x3FFFFFFFFFFFFFFE, 0x10, false, 0⟩) = some (⟨0xFFFFFFFFFFFFFFF8, 0xFFFFFFFFFFFFFFFC⟩, false) ∧
    bounds (.regionNa4 ⟨0x3FFFFFFFFFFFFFFF, 0x10, false, 0⟩) = some (⟨0xFFFFFFFFFFFFFFFC, 0x10000000000000000⟩, true) := by decide
/-- VN10 and VN25. -/
theorem test_region_napot : ports (.regionNapot ⟨0x17, 0x18, false, 0⟩) = some (0x40, 0x140) ∧
    ports (.regionNapot ⟨0xF7FFFFFFFFFFFFFF, 0x18, false, 0⟩) = some (0, 0xFFFFFFFFFFFFFFFF) := by decide
/-- VN29: the base is beyond 64 bits. -/
theorem test_region_napot_range_err : bounds (.regionNapot ⟨0x83FFFFFFFFFFFFFF, 0x18, false, 0⟩) =
    some (⟨0x20000000000000000, 0x28000000000000000⟩, true) := by decide
/-- VN3 and VN32. -/
theorem test_napot_fallback : ports (.regionNapotFallback 0x402) = some (0x1008, 0x100C) ∧
    bounds (.regionNapotFallback 0x4000000000000000) = some (⟨0x10000000000000000, 0x10000000000000004⟩, true) := by decide
/-- VN5, VN8, VN12, VN13, VN14, VN15: rows T1, T2, T3, T4, T7, T9. -/
theorem test_napot_rows : ports (.regionNapotT1 0x5) = some (0x10, 0x50) ∧ ports (.regionNapotT2 0x13) = some (0x40, 0xC0) ∧
    ports (.regionNapotT3 0x47) = some (0x100, 0x200) ∧ ports (.regionNapotT4 0xF) = some (0, 0x200) ∧
    ports (.regionNapotT7 0x47F) = some (0x1000, 0x2000) ∧ ports (.regionNapotT9 0x5FF) = some (0x1000, 0x5000) := by decide
/-- VN21, VN19, VN18, VN20, VN22, VN30, VN31: rows T20, T28, T29, T53, T54, T57, T58. -/
theorem test_napot_wide_rows : ports (.regionNapotT20 0x200000000FFFFF) = some (0x80000000000000, 0x80000002000000) ∧
    ports (.regionNapotT28 0x2FFFFFFF) = some (0x80000000, 0x280000000) ∧
    ports (.regionNapotT29 0x1FFFFFFF) = some (0, 0x400000000) ∧
    ports (.regionNapotT53 0x1FFFFFFFFFFFFF) = some (0, 0x400000000000000) ∧
    ports (.regionNapotT54 0x3FFFFFFFFFFFFF) = some (0, 0x800000000000000) ∧
    ports (.regionNapotT57 0x5FFFFFFFFFFFFFF) = some (0x1000000000000000, 0x5000000000000000) ∧
    ports (.regionNapotT58 0xBFFFFFFFFFFFFFF) = some (0x2000000000000000, 0xA000000000000000) := by decide
/-- VN24. -/
theorem test_napot_all : ports (.regionNapotAll 0x7FFFFFFFFFFFFFF) = some (0, 0xFFFFFFFFFFFFFFFF) := by decide
/-- VN26, VN28. -/
theorem test_napot_over : bounds (.regionNapotOver 0xFFFFFFFFFFFFFFF) = some (⟨0, 0x20000000000000000⟩, true) ∧
    bounds (.regionNapotOver 0xFFFFFFFFFFFFFFFF) = some (⟨0, 0x200000000000000000⟩, true) := by decide
/-- R94's example. -/
theorem test_decode : ports (.decodeEntry ⟨0x47F, 0x19, false, 0⟩) = some (0x1000, 0x2000) ∧
    flagsOf (.decodeEntry ⟨0x47F, 0x19, false, 0⟩) = some ⟨true, false, false, false, .napot⟩ := by decide

/-- The per-entry regions and error flags. -/
def entries (table : List Entry) : Option (List (Region × Bool)) :=
  (after (exec (.decodeAll table) (onTable []))).map fun s => s.ent.map fun o => (o.region, o.rangeErr)

/-- VD4 and VD6. -/
theorem test_decode_all : entries [⟨0x47F, 0x19⟩, ⟨0x800, 0x0F⟩] = some [(⟨0x1000, 0x2000⟩, false), (⟨0x11FC, 0x2000⟩, false)] ∧
    entries [⟨0x400, 0x0F⟩, ⟨0x100, 0x0F⟩, ⟨0x800, 0x0F⟩] =
      some [(⟨0, 0x1000⟩, false), (⟨0x1000, 0x400⟩, false), (⟨0x400, 0x2000⟩, false)] := by decide
/-- VD7 and VD8. -/
theorem test_decode_all_range_err :
    entries [⟨0x4000000000000000, 0x00⟩, ⟨0x10, 0x08⟩] = some [(⟨0, 0⟩, false), (⟨0x10000000000000000, 0x40⟩, true)] ∧
    entries [⟨0x4000000000000000, 0x00⟩, ⟨0x10, 0x10⟩] = some [(⟨0, 0⟩, false), (⟨0x40, 0x44⟩, false)] := by decide

/-- The table `T` of S3. -/
def tableT : List Entry := [⟨0x400, 0x10⟩, ⟨0x47F, 0x19⟩]

/-- VR1 and VR5. -/
theorem test_resolve_pr : result tableT (.resolvePR 0x1000 0) = some ⟨true, 0, false, 0b000, false, false⟩ ∧
    result tableT (.resolvePR 0x1004 0) = some ⟨true, 1, true, 0b001, true, false⟩ := by decide
/-- VR72 and VR6. -/
theorem test_resolve_pw : result [⟨0x47F, 0x1A⟩] (.resolvePW 0x1000 0) = some ⟨true, 0, true, 0b010, true, false⟩ ∧
    result tableT (.resolvePW 0x1004 0) = some ⟨true, 1, false, 0b000, false, false⟩ := by decide
/-- VR42 and P4 request 3 under DENY. -/
theorem test_resolve_px : result [⟨0x20000000, 0x1D⟩] (.resolvePX 0x80000003 0) = some ⟨true, 0, true, 0b101, true, false⟩ ∧
    result [] (.resolvePX 0xFFFFFFFFFFFFFFFF 0) = some ⟨false, 0, false, 0b000, false, false⟩ := by decide
/-- VR13 and VR24: straddling, and size 0 at the end. -/
theorem test_resolve_sr : result tableT (.resolveSR 0x1002 4) = some ⟨true, 1, true, 0b001, true, false⟩ ∧
    result tableT (.resolveSR 0x1004 0) = some ⟨true, 0, false, 0b000, false, false⟩ := by decide
/-- VR16 and VR17. -/
theorem test_resolve_sw : result tableT (.resolveSW 0x1FFC 4) = some ⟨true, 1, false, 0b000, false, false⟩ ∧
    result tableT (.resolveSW 0x1FFD 4) = some ⟨false, 0, false, 0b000, false, false⟩ := by decide
/-- VR62 and P2 request 9. -/
theorem test_resolve_sx : result [⟨0x47F, 0x18⟩, ⟨0x7FF, 0x1F⟩] (.resolveSX 0 0x10000) = some ⟨true, 1, true, 0b111, true, false⟩ ∧
    result [⟨0x47F, 0x18⟩, ⟨0x7FF, 0x1F⟩] (.resolveSX 0xFFFF 2) = some ⟨false, 0, false, 0b000, false, false⟩ := by decide
/-- VR28, VR29. -/
theorem test_reserved : (result tableT (.reservedP3 0x1000 0)).map (·.err) = some true ∧
    (result tableT (.reservedS3 0x1000 4)).map (·.err) = some true := by decide
/-- VR63, VR46, VR47: a later entry's `range_err`, the last legal size, the first illegal one. -/
theorem test_err : (result [⟨0x400, 0x1F⟩, ⟨0x4000000000000000, 0x08⟩] (.resolvePR 0x1000 0)).map (·.err) = some true ∧
    (result [] (.resolveSR 0xFFFFFFFFFFFFFFFF 1)).map (·.err) = some false ∧
    (result [] (.resolveSR 0xFFFFFFFFFFFFFFFF 2)).map (·.err) = some true := by decide
/-- VR50: the (0, 0) guard at size 0. -/
theorem test_no_region_guard : result [⟨0x0, 0x07⟩, ⟨0x400, 0x0F⟩] (.resolveSR 0 0) = some ⟨true, 1, true, 0b111, true, false⟩ := by decide
/-- P4 request 1 under ALLOW. -/
theorem test_no_match_allow : (after (exec (.resolvePR 0 0) { State.reset with policy := .allow })).map (·.res.accessOk) =
    some true := by decide
/-- The word of RESERVED.P.3 runs first after reset. -/
theorem test_step_runs_the_table_word : (after (step (State.reset.withFetchWord 8 3))).map (·.res.err) = some true := by decide
/-- By hand from R87 and R33: after reset the byte 0x10 makes the entry NA4 at register 0, so `end` is 4. -/
theorem test_perm_drives_the_bounds : ports (.perm 0x10) = some (0, 4) := by decide
/-- By hand from R85, R87 and R143: NA4 at 2^63 has `range_err`; the byte 0 makes the entry OFF, and it falls. -/
theorem test_range_err_is_not_kept : (((after (exec (.regionNa4 ⟨0x8000000000000000, 0x10, false, 0⟩) (onTable []))).bind
    fun s => after (exec (.perm 0x00) s)).map fun s => (s.decOut.rangeErr, s.decOut.region)) = some (false, ⟨0, 0⟩) := by decide
/-- R91: `matching_mode` reports 3; by hand from R60 the byte 0 in mode NAPOT has no other flag. -/
theorem test_subcase_reports_napot : flagsOf (.regionNapotT3 0x47) = some ⟨false, false, false, false, .napot⟩ := by decide
/-- VR5's request, then no entry: the result is a no match at once (R126), nothing is latched (R142). -/
theorem test_result_is_not_kept : (((after (exec (.resolvePR 0x1004 0) (onTable tableT))).bind
    fun s => after (exec (.decodeAll []) s)).map (·.res)) = some ⟨false, 0, false, 0b000, false, false⟩ := by decide
/-- R7's index widths. -/
theorem test_idx_width : [0, 1, 2, 3, 4, 5, 16, 17].map Config.idxWidth = [1, 1, 1, 2, 2, 3, 4, 5] := by decide

/-! ### Witnesses: every statement's hypotheses are met together -/

theorem witness_bits_6_and_5 : (∃ t u, exec (.perm 0x78) (onTable []) = .next t ∧ exec (.perm (0x78 &&& 0x9F)) (onTable []) = .next u) ∧
    (∃ t u, exec (.decodeEntry ⟨0x47F, 0x79, false, 0⟩) (onTable []) = .next t ∧
      exec (.decodeEntry ⟨0x47F, 0x79 &&& 0x9F, false, 0⟩) (onTable []) = .next u) ∧
    (∃ t u, exec (.decodeAll tableT) (onTable []) = .next t ∧
      exec (.decodeAll (tableT.map fun e => { e with cfg := e.cfg &&& 0x9F })) (onTable []) = .next u) :=
  ⟨⟨_, _, rfl, rfl⟩, ⟨_, _, rfl, rfl⟩, ⟨_, _, rfl, rfl⟩⟩
theorem witness_region_off : WellFormed (.regionOff ⟨BitVec.allOnes 64, 0xE7, true, 5⟩) := by decide
theorem witness_region_tor : WellFormed (.regionTor ⟨0x4000000000000000, 0x0F, true, 0⟩) := by decide
theorem witness_region_na4 : WellFormed (.regionNa4 ⟨0x3FFFFFFFFFFFFFFF, 0x17, false, 0⟩) := by decide
/-- One register for each case of the dispatch. -/
theorem witness_region_napot : (WellFormed (.regionNapot ⟨0x7FFFFFFFFFFFFFF, 0x18, false, 0⟩) ∧ cto 0x7FFFFFFFFFFFFFF + 5 = 64) ∧
    (WellFormed (.regionNapot ⟨0x400, 0x18, false, 0⟩) ∧ cto 0x400 = 0) ∧
    (WellFormed (.regionNapot ⟨0x1, 0x18, false, 0⟩) ∧ cto 0x1 = 1) ∧
    (WellFormed (.regionNapot ⟨BitVec.allOnes 64, 0x18, false, 0⟩) ∧ cto (BitVec.allOnes 64) = 64) := by decide
theorem witness_cto_run : (16 : Nat) ≤ 64 ∧ (0x2FFFF : Word).toNat % 2 ^ 16 = 2 ^ 16 - 1 := by decide
theorem witness_napot_general : ((58 : Nat) = cto 0xBFFFFFFFFFFFFFF) ∧ (60 : Nat) = cto 0xFFFFFFFFFFFFFFF ∧ (1 : Nat) = cto 0x5 := by decide
theorem witness_napot_rows : ∀ k : Fin 59, 1 ≤ k.val → WellFormed (Instr.napotByCount k.val (BitVec.ofNat 64 (2 ^ k.val - 1))) := by decide
theorem witness_napot_all : WellFormed (.regionNapotAll 0xF7FFFFFFFFFFFFFF) := by decide
theorem witness_whole_space_requests : (ReqIn.mk 0xFFFFFFFFFFFFFFFF false 0 0).reqSizeValid = false ∧
    (ReqIn.mk 0xFFFFFFFFFFFFFFFF true 0 0).reqSizeValid = true := by decide
theorem witness_napot_fallback : WellFormed (.regionNapotFallback 0x4000000000000000) ∧
    ∃ u, exec (.regionNa4 ⟨0x4000000000000000, 0x10, false, 0⟩) (onTable []) = .next u := ⟨by decide, _, rfl⟩
theorem witness_napot_over : WellFormed (.regionNapotOver 0xFFFFFFFFFFFFFFF) ∧ WellFormed (.regionNapotOver (BitVec.allOnes 64)) ∧
    (BitVec.allOnes 64).toNat = 2 ^ 64 - 1 := by decide
theorem witness_napot_subcase : ∃ t u, exec (.regionNapot ⟨0x47F, 0x18, false, 0⟩) (onTable []) = .next t ∧
    exec (decodeNapot 0x47F) (onTable []) = .next u := ⟨_, _, rfl, rfl⟩
theorem witness_napot_sizes : (∃ t, exec (.regionNapot ⟨0x17, 0x18, false, 0⟩) (onTable []) = .next t) ∧
    ∃ t, exec (.regionNapot ⟨0x7FFFFFFFFFFFFFF, 0x18, false, 0⟩) (onTable []) = .next t := ⟨⟨_, rfl⟩, ⟨_, rfl⟩⟩
theorem witness_word_aligned : ∃ t, exec (.decodeEntry ⟨0x401, 0x10, false, 0⟩) (onTable []) = .next t := ⟨_, rfl⟩
theorem witness_architected_entry : (0x3FFFFFFFFFFFFF : Word).toNat < 2 ^ 54 ∧
    ((DecIn.mk 0x3FFFFFFFFFFFFF 0x0F true 0x3FFFFFFFFFFFFF).prevValid = true → (0x3FFFFFFFFFFFFF : Word).toNat < 2 ^ 54) := by decide
theorem witness_neighbours_byte : ∃ t u x y, tableT.map (·.a) = [Entry.mk 0x400 0x00, ⟨0x47F, 0x19⟩].map (·.a) ∧
    tableT[1]? = [Entry.mk 0x400 0x00, ⟨0x47F, 0x19⟩][1]? ∧ exec (.decodeAll tableT) (onTable []) = .next t ∧
    exec (.decodeAll [⟨0x400, 0x00⟩, ⟨0x47F, 0x19⟩]) (onTable []) = .next u ∧ t.ent[1]? = some x ∧ u.ent[1]? = some y :=
  ⟨_, _, _, _, by decide, by decide, rfl, rfl, rfl, rfl⟩
theorem witness_tor_top : 4 ∣ 0x10000 ∧ 0x10000 >>> 2 < 2 ^ 64 ∧ modeOf 0x0D = .tor ∧ (0x4000 : Word) = BitVec.ofNat 64 (0x10000 >>> 2) ∧
    ∃ t, exec (.decodeEntry ⟨0x4000, 0x0D, false, 0⟩) (onTable []) = .next t := ⟨by decide, by decide, by decide, by decide, _, rfl⟩
theorem witness_na4_at : 4 ∣ 0xFFFFFFFFFFFFFFFC ∧ 0xFFFFFFFFFFFFFFFC >>> 2 < 2 ^ 64 ∧ modeOf 0x10 = .na4 ∧
    (0x3FFFFFFFFFFFFFFF : Word) = BitVec.ofNat 64 (0xFFFFFFFFFFFFFFFC >>> 2) ∧
    ∃ t, exec (.decodeEntry ⟨0x3FFFFFFFFFFFFFFF, 0x10, false, 0⟩) (onTable []) = .next t :=
  ⟨by decide, by decide, by decide, by decide, _, rfl⟩
/-- `B = 2^64`, the exclusive top of the space. -/
theorem witness_pseudo_forms_at_the_top : 4 ∣ 2 ^ 64 ∧ 2 ^ 64 >>> 2 < 2 ^ 64 ∧
    (0x4000000000000000 : Word) = BitVec.ofNat 64 (2 ^ 64 >>> 2) ∧
    (∃ t, exec (.decodeEntry ⟨0x4000000000000000, 0x08, false, 0⟩) (onTable []) = .next t) ∧
    ∃ t, exec (.decodeEntry ⟨0x4000000000000000, 0x10, false, 0⟩) (onTable []) = .next t :=
  ⟨by decide, by decide, by decide, ⟨_, rfl⟩, _, rfl⟩
/-- R73's example, and both ends of `e`. -/
theorem witness_napot_pseudo_form : (2 ^ (12 - 2) ∣ 0x1000 ∧ 0x1000 + 2 ^ 12 ≤ 2 ^ 64 - 1 ∧
      (0x47F : Word) = BitVec.ofNat 64 ((0x1000 >>> 2) ||| (2 ^ (12 - 5) - 1)) ∧ modeOf 0x18 = .napot) ∧
    (2 ^ (6 - 2) ∣ 0x10 ∧ (0x5 : Word) = BitVec.ofNat 64 ((0x10 >>> 2) ||| (2 ^ (6 - 5) - 1))) ∧
    (2 ^ (63 - 2) ∣ 2 ^ 61 ∧ 2 ^ 61 + 2 ^ 63 ≤ 2 ^ 64 - 1) ∧
    ∃ t, exec (.decodeEntry ⟨0x47F, 0x18, false, 0⟩) (onTable []) = .next t :=
  ⟨by decide, by decide, by decide, _, rfl⟩
theorem witness_napot_all_form : modeOf 0x18 = .napot ∧ (0x7FFFFFFFFFFFFFF : Word) = BitVec.ofNat 64 (2 ^ 59 - 1) ∧
    ∃ t, exec (.decodeEntry ⟨0x7FFFFFFFFFFFFFF, 0x18, false, 0⟩) (onTable []) = .next t := ⟨by decide, by decide, _, rfl⟩
/-- VC7, VC8 and VC17 meet the three conditional clauses. -/
theorem witness_containment : ((ReqIn.mk 0x1FFF true 1 0).reqSizeValid = true ∧ (ReqIn.mk 0x1FFF true 1 0).reqSize.toNat = 1) ∧
    (2 ≤ (ReqIn.mk 0x1FFF true 2 0).reqSize.toNat ∧ (ReqIn.mk 0x1FFF true 2 0).reqAddress.toNat + 1 = (Region.mk 0x1000 0x2000).e) ∧
    ((ReqIn.mk 0x1000 true 0 0).reqSize.toNat = 0 ∧ (ReqIn.mk 0x1000 true 0 0).reqAddress.toNat = (Region.mk 0x1000 0x1000).e ∧
      (Region.mk 0x1000 0x1000).s ≤ (Region.mk 0x1000 0x1000).e) := by decide

theorem tableT_fits : TableFits tableT := by
  intro k e h
  match k with
  | 0 => obtain rfl : ⟨0x400, 0x10⟩ = e := by simpa [tableT] using h
         decide
  | 1 => obtain rfl : ⟨0x47F, 0x19⟩ = e := by simpa [tableT] using h
         decide
  | k + 2 => simp [tableT] at h

/-- Sized up to the last byte of the space, and a point; both outcomes of the disjunction, a hit and a no match. -/
theorem witness_resolve : (2 : BitVec 2) ≠ 3 ∧ InSpace (requestPorts true 0 0xFFFFFFFFFFFFFFFF 1) ∧
    InSpace (requestPorts false 0 0x1000 0) ∧ TableFits (onTable tableT).table ∧
    Covers (entryRegion tableT 0 ⟨0x400, 0x10⟩) (requestPorts false 0 0x1000 0) ∧
    ¬ Covers (entryRegion tableT 1 ⟨0x47F, 0x19⟩) (requestPorts true 0 0xFFFFFFFFFFFFFFFF 1) :=
  ⟨by decide, by decide, by decide, tableT_fits, by decide, by decide⟩
theorem witness_policy : ∃ t u, exec (requestOp false 0 0x2000 0) (onTable tableT) = .next t ∧
    exec (requestOp false 0 0x2000 0) { onTable tableT with policy := .allow } = .next u ∧ t.res.err = false ∧ t.res.hit = false :=
  ⟨_, _, rfl, rfl, by decide, by decide⟩
theorem witness_policy_hit : ∃ t, exec (requestOp false 0 0x1004 0) (onTable tableT) = .next t ∧ t.res.err = false ∧ t.res.hit = true :=
  ⟨_, rfl, by decide, by decide⟩
theorem witness_empty_table : (onTable []).table = [] ∧ (1 : BitVec 2) ≠ 3 ∧ InSpace (requestPorts true 1 0x8000 8) := by decide
/-- VR1, with entries put behind the one that denies. -/
theorem witness_shadowed : ∃ t u, (onTable tableT).table = [⟨0x400, 0x10⟩] ++ [⟨0x47F, 0x19⟩] ∧
    exec (requestOp false 0 0x1000 0) (onTable tableT) = .next t ∧
    exec (requestOp false 0 0x1000 0) { onTable tableT with table := [⟨0x400, 0x10⟩] ++ [] } = .next u ∧
    t.res.err = false ∧ u.res.err = false ∧ t.res.hit = true ∧ t.res.matchIndex < 1 :=
  ⟨_, _, rfl, rfl, rfl, by decide, by decide, by decide, by decide⟩
/-- VR73 against the same table unlocked. -/
theorem witness_lock : ∃ t u, [Entry.mk 0x47F 0x99].map (fun e => (e.a, e.cfg &&& 0x1F)) =
      [Entry.mk 0x47F 0x79].map (fun e => (e.a, e.cfg &&& 0x1F)) ∧
    exec (requestOp false 1 0x1000 0) (onTable [⟨0x47F, 0x99⟩]) = .next t ∧
    exec (requestOp false 1 0x1000 0) { onTable [⟨0x47F, 0x99⟩] with table := [⟨0x47F, 0x79⟩] } = .next u ∧ t.res.err = false :=
  ⟨_, _, by decide, rfl, rfl, by decide⟩
theorem witness_size_one : ∃ t u, exec (requestOp false 0 0x1FFF 0) (onTable tableT) = .next t ∧
    exec (requestOp true 0 0x1FFF 1) (onTable tableT) = .next u ∧ t.res.err = false := ⟨_, _, rfl, rfl, by decide⟩
theorem witness_inputs_alone : ∃ t₁ t₂, (onTable tableT).table = (evalPerm 0xFF (onTable tableT)).table ∧
    (onTable tableT).policy = (evalPerm 0xFF (onTable tableT)).policy ∧
    exec (requestOp false 0 0x1004 0) (onTable tableT) = .next t₁ ∧
    exec (requestOp false 0 0x1004 0) (evalPerm 0xFF (onTable tableT)) = .next t₂ ∧ t₁.res.err = false :=
  ⟨_, _, rfl, rfl, rfl, rfl, by decide⟩
theorem witness_match_index : (∃ t, exec (requestOp false 3 0 0) (onTable tableT) = .next t) ∧ 1 ≤ 2 ∧ 4 ≤ 2 ^ 2 :=
  ⟨⟨_, rfl⟩, by decide, by decide⟩
theorem witness_architected_table : (∀ e ∈ (onTable tableT).table, e.a.toNat < 2 ^ 54) ∧ (2 : BitVec 2) ≠ 3 ∧
    InSpace (requestPorts true 2 0xFFFFFFFFFFFFFFFF 1) := by decide
theorem witness_round_trip : WellFormed (.regionNapotT58 0xBFFFFFFFFFFFFFF) ∧ WellFormed (.decodeAll tableT) := by decide
theorem witness_decodes : ∃ i, decode ⟨.request, 0b111⟩ = .ok i := ⟨_, rfl⟩
theorem witness_widths : (OpWord.mk .perm 0xFF).bits < 2 ^ (OpWord.mk .perm 0xFF).form.width ∧
    2 ^ (OpWord.mk (.table 1) (2 ^ 72)).form.width ≤ (OpWord.mk (.table 1) (2 ^ 72)).bits := by decide
theorem witness_step : ∃ i, ({ onTable [] with program := [⟨.napot, 7⟩] } : State).program = ⟨.napot, 7⟩ :: [] ∧
    decode ⟨.napot, 7⟩ = .ok i := ⟨_, rfl, rfl⟩
theorem witness_step_without_operation : (onTable tableT).program = [] := rfl
theorem witness_reads_inputs : ∃ t, exec (.decodeAll tableT) (onTable []) = .next t ∧ t.table = tableT := ⟨_, rfl, rfl⟩

/-- A state that meets the invariant and steps, with a table, a result and an operation presented. -/
theorem witness_invariant : ∃ s t, Inv s ∧ s.program = [⟨.napot, 7⟩] ∧ s.table = tableT ∧ step s = .next t :=
  ⟨(evalTable tableT State.reset).setProgram [⟨.napot, 7⟩], _,
    (setProgram_outputsOfInputs _ (evalTable_outputsOfInputs tableT State.reset)).inv, rfl, rfl, rfl⟩
theorem witness_every_output : (∃ t, WellFormed (.regionNapotT1 0x5) ∧ exec (.regionNapotT1 0x5) (onTable tableT) = .next t) ∧
    ∃ t, step (onTable tableT) = .next t := ⟨⟨_, by decide, rfl⟩, _, rfl⟩
/-- A request presented again meets all three cases: its decoder ports, its table and its request stand. -/
theorem witness_outputs_change_only : ∃ t x, OutputsOfInputs (evalRequest ⟨0x1004, false, 0, 0⟩ (onTable tableT)) ∧
    WellFormed (.resolvePR 0x1004 0) ∧
    exec (.resolvePR 0x1004 0) (evalRequest ⟨0x1004, false, 0, 0⟩ (onTable tableT)) = .next t ∧
    t.decIn = (evalRequest ⟨0x1004, false, 0, 0⟩ (onTable tableT)).decIn ∧
    (evalRequest ⟨0x1004, false, 0, 0⟩ (onTable tableT)).decOut.rangeErr = false ∧
    t.table = (evalRequest ⟨0x1004, false, 0, 0⟩ (onTable tableT)).table ∧
    (evalRequest ⟨0x1004, false, 0, 0⟩ (onTable tableT)).ent[1]? = some x ∧ x.rangeErr = false ∧
    t.req = (evalRequest ⟨0x1004, false, 0, 0⟩ (onTable tableT)).req ∧
    (evalRequest ⟨0x1004, false, 0, 0⟩ (onTable tableT)).res.err = false :=
  ⟨_, _, evalRequest_outputsOfInputs _ _, rfl, rfl, rfl, by decide, rfl, rfl, by decide, rfl, by decide⟩

end Sys2Proof.Tests
end

