-- ==== Sys2Proof/Proofs/Scope.lean ====
section
/-! PROOFS. The scope statements: `cto` (R10), and the width of `match_index` (R7, R32). -/

namespace Sys2Proof.Machine

/-! ### The width of an index -/

theorem one_le_idxWidth (n : Nat) : 1 ≤ Config.idxWidth n := by
  unfold Config.idxWidth
  split <;> omega

/-- `IDX_W` is the least positive width that can name every entry. -/
theorem idxWidth_le {n w : Nat} (hw : 1 ≤ w) (h : n ≤ 2 ^ w) : Config.idxWidth n ≤ w := by
  unfold Config.idxWidth
  split
  · exact hw
  · exact (Nat.log2_lt (by omega)).mpr (by omega)

/-! ### The index of a result -/

theorem scan_zero_lt_length {q : ReqIn} {ds : List DecOut} {i : Nat} {f : Flags} (h : scan q 0 ds = some (i, f)) :
    i < ds.length := by
  obtain ⟨k, d, rfl, hk, -⟩ := (scan_eq_some_iff q 0 ds i f).mp h
  rw [Nat.zero_add]
  exact (List.getElem?_eq_some_iff.mp hk).1

theorem resultOf_matchIndex_lt {p : NoMatchPolicy} {ty : AccessType} {m : Option (Nat × Flags)} {b : Nat} (hb : 0 < b)
    (h : ∀ i f, m = some (i, f) → i < b) : (resultOf p ty m).matchIndex < b := by
  rcases m with _ | ⟨i, f⟩
  · exact hb
  · exact h i f rfl

/-- With `err` the free index is cut to the port's width (log 8); without, it is 0 or that of an entry. -/
theorem resolve_matchIndex_lt (p : NoMatchPolicy) (tick : Nat) (es : List Entry) (q : ReqIn) :
    (resolve p tick es q).matchIndex < 2 ^ Config.idxWidth es.length := by
  have hpos : 0 < 2 ^ Config.idxWidth es.length := Nat.two_pow_pos _
  obtain ⟨-, hr⟩ | ⟨-, ty, -, hr⟩ := resolve_cases p tick es q <;> rw [hr]
  · exact Nat.mod_lt _ hpos
  · refine resultOf_matchIndex_lt hpos fun i f hs => ?_
    have hi : i < es.length := decodeTable_length tick es ▸ scan_zero_lt_length hs
    exact hi.trans_le (le_two_pow_idxWidth _)

end Sys2Proof.Machine

namespace Sys2Proof.Proofs

open Sys2Proof.Machine

/-- Settles O7: within its 64 bits, `cto` is at least `t` exactly when the low `t` bits are ones. -/
theorem ctoIsTheLargestRunOfLowOnes : Obligations.CtoIsTheLargestRunOfLowOnes :=
  fun v => ⟨cto_le v, mod_cto v, fun t ht h => (le_cto_iff v t ht).mpr h⟩

/-- Settles O32: every request operation is one evaluation of RESOLVE, whose index fits also under `err`. -/
theorem matchIndexFitsItsPort : Obligations.MatchIndexFitsItsPort := by
  refine ⟨fun sv ty A n s t h => ?_, fun N => ⟨one_le_idxWidth N, le_two_pow_idxWidth N, fun _ => idxWidth_le⟩⟩
  rw [exec_requestOp] at h
  injection h with h
  rw [← h, evalRequest_res]
  exact resolve_matchIndex_lt ..

end Sys2Proof.Proofs
end

/-! PROOFS. The statements about the machine's state: every evaluation drives every output from its inputs (R33),
keeps nothing of an earlier one (R20) and changes no input but those it presents (R24). -/

namespace Sys2Proof.Machine

/-! ### Two evaluations of one decoder -/

/-- `y` shows what `x` does, but for the bound ports under `range_err`, which the spec leaves unspecified (R95). -/
def SameButFreeBounds (x y : DecOut) : Prop :=
  y = { x with start := y.start, endPort := y.endPort } ∧ (x.rangeErr = false → y = x)

/-- The counter of evaluations reaches a decoder's outputs through the unspecified bounds alone. -/
theorem narrow_sameButFreeBounds (k k' : Nat) (who : DecoderId) (f : Flags) (r : Region) :
    SameButFreeBounds (narrow k who f r) (narrow k' who f r) :=
  ⟨rfl, fun h => narrow_of_fits _ _ _ _ f r (by simpa using h)⟩

theorem decodeTable_sameButFreeBounds {k : Nat} (k' : Nat) {es : List Entry} {j : Nat} {x : DecOut}
    (h : (decodeTable k es)[j]? = some x) : ∃ y, (decodeTable k' es)[j]? = some y ∧ SameButFreeBounds x y := by
  rw [decodeTable_getElem?, Option.map_eq_some_iff] at h
  obtain ⟨e, he, rfl⟩ := h
  exact ⟨_, by rw [decodeTable_getElem?, he]; rfl, narrow_sameButFreeBounds ..⟩

/-! ### Two evaluations of one request -/

/-- `err` is a function of the request and the table, whichever evaluation drives it. -/
theorem resolve_err_tick (p : NoMatchPolicy) (k k' : Nat) (es : List Entry) (q : ReqIn) :
    (resolve p k es q).err = (resolve p k' es q).err :=
  Bool.eq_iff_iff.mpr ((resolve_err_iff p k es q).trans (resolve_err_iff p k' es q).symm)

/-- Without `err` the table fits, so no free value reaches the scan. -/
theorem resolve_of_no_err_tick {p : NoMatchPolicy} {k : Nat} (k' : Nat) {es : List Entry} {q : ReqIn}
    (h : (resolve p k es q).err = false) :
    TableFits es ∧ resolve p k es q = resolve p k' es q := by
  obtain ⟨ty, ht, hfit, hr⟩ := resolve_of_no_err h
  rw [resolve_err_tick p k k'] at h
  obtain ⟨ty', ht', -, hr'⟩ := resolve_of_no_err h
  obtain rfl : ty = ty' := Option.some.inj (ht.symm.trans ht')
  exact ⟨hfit, by rw [hr, hr', decodeTable_of_fits k k' es hfit]⟩

/-! ### What any operation does, well-formed or not -/

/-- The three kinds of evaluation, for every instruction and with the same reading in every state: a decoder's ports
are presented, made of the instruction and the ports that stand; or a table; or a request. -/
theorem exec_kind (i : Instr) :
    (∃ (d : DecIn → DecIn) (r : DecIn → Region), ∀ s, exec i s = .next (evalRegion (d s.decIn) (r s.decIn) s)) ∨
    (∃ es, i = .decodeAll es) ∨ ∃ q, ∀ s, exec i s = .next (evalRequest q s) := by
  cases i
  case decodeAll es => exact .inr (.inl ⟨es, rfl⟩)
  case resolvePR | resolvePW | resolvePX | resolveSR | resolveSW | resolveSX | reservedP3 | reservedS3 =>
    exact .inr (.inr ⟨_, fun _ => rfl⟩)
  case perm cfg =>
    exact .inl ⟨fun d => { d with configByte := cfg }, fun d => regionOfPorts { d with configByte := cfg }, fun _ => rfl⟩
  case regionOff d | regionTor d | regionNa4 d | regionNapot d | decodeEntry d =>
    exact .inl ⟨Function.const _ d, Function.const _ _, fun _ => rfl⟩
  -- the NAPOT sub-cases
  all_goals exact .inl ⟨napotPorts _, Function.const _ _, fun _ => rfl⟩

/-! ### Nothing is kept -/

/-- The state with other values left on the output ports. -/
def State.withOutputs (o : DecOut) (r : ResOut) (e : List DecOut) (s : State) : State :=
  { s with decOut := o, res := r, ent := e }

/-- Every kind of evaluation drives all three outputs, so what stood on them is gone. -/
theorem exec_withOutputs (i : Instr) (o : DecOut) (r : ResOut) (e : List DecOut) (s : State) :
    exec i (s.withOutputs o r e) = exec i s := by
  obtain ⟨d, g, h⟩ | ⟨es, rfl⟩ | ⟨q, h⟩ := exec_kind i
  · rw [h, h]; rfl
  · rfl
  · rw [h, h]; rfl

theorem fetch_withOutputs (o : DecOut) (r : ResOut) (e : List DecOut) (s : State) :
    fetch (s.withOutputs o r e) = (fetch s).map fun (w, s') => (w, s'.withOutputs o r e) := by
  unfold fetch State.withOutputs
  cases s.program <;> rfl

/-- The word taken does not depend on the outputs, and what it runs keeps nothing of them. -/
theorem step_withOutputs (o : DecOut) (r : ResOut) (e : List DecOut) (s : State) :
    step (s.withOutputs o r e) = step s := by
  rw [step, step, fetch_withOutputs]
  rcases fetch s with _ | ⟨w, s'⟩
  · exact exec_withOutputs (.decodeAll s.table) o r e s
  · simp only [Option.map_some]
    cases decode w with
    | error why => rfl
    | ok i => exact exec_withOutputs i o r e s'

/-! ### Steps and reset -/

theorem step_outputsOfInputs {s t : State} (h : step s = .next t) : OutputsOfInputs t := by
  obtain ⟨i, os, hw, h⟩ := step_wellFormed h
  exact exec_outputsOfInputs hw h

/-- The outputs written out in `State.reset` are those of an empty table and of ports at 0. -/
theorem reset_outputsOfInputs : OutputsOfInputs State.reset where
  decoder := rfl
  entries := rfl
  result := rfl

end Sys2Proof.Machine

namespace Sys2Proof.Proofs

open Sys2Proof.Machine

/-- Settles O43: whatever held before, a step drives every output from the inputs, and that is the whole invariant. -/
theorem stepKeepsTheInvariant : Obligations.StepKeepsTheInvariant :=
  fun _ _ _ h => (step_outputsOfInputs h).inv

/-- Settles O31: two evaluations of one request differ in their counter alone, which a result without `err` does not
show. -/
theorem resultDependsOnTheInputsAlone : Obligations.ResultDependsOnTheInputsAlone := by
  intro sv ty A n s₁ s₂ t₁ t₂ htable hpolicy h₁ h₂
  rw [exec_requestOp] at h₁ h₂
  injection h₁ with h₁
  injection h₂ with h₂
  rw [← h₁, ← h₂, evalRequest_res, evalRequest_res, evalRequest_ent, evalRequest_ent, htable, hpolicy]
  refine ⟨resolve_err_tick .., fun herr => ?_⟩
  obtain ⟨hfit, hres⟩ := resolve_of_no_err_tick (s₂.tick + 1) herr
  exact ⟨hres, decodeTable_of_fits _ _ _ hfit⟩

/-- Settles O44: every kind of evaluation ends by driving the outputs, and a step runs only well-formed operations. -/
theorem everyEvaluationDrivesEveryOutput : Obligations.EveryEvaluationDrivesEveryOutput :=
  ⟨fun _ _ _ => exec_outputsOfInputs, fun _ _ => step_outputsOfInputs⟩

/-- Settles O41: only the presentation of a table writes the table, and no kind of evaluation writes the rest. -/
theorem theBlockOnlyReadsItsInputs : Obligations.TheBlockOnlyReadsItsInputs := by
  intro i s t h
  obtain ⟨d, r, hi⟩ | ⟨es, rfl⟩ | ⟨q, hi⟩ := exec_kind i
  · rw [hi] at h
    injection h with h
    obtain ⟨htable, -, hpolicy, hprogram, -⟩ := evalRegion_frame (d s.decIn) (r s.decIn) s
    exact h ▸ ⟨hpolicy, hprogram, .inl htable⟩
  · injection h with h
    exact h ▸ ⟨rfl, rfl, .inr ⟨es, rfl, rfl⟩⟩
  · rw [hi] at h
    injection h with h
    obtain ⟨htable, -, hpolicy, hprogram, -⟩ := evalRequest_frame q s
    exact h ▸ ⟨hpolicy, hprogram, .inl htable⟩

/-- Settles O46: before and after the operation the outputs are functions of the same inputs, evaluated twice. -/
theorem outputsChangeOnlyWithTheirInputs : Obligations.OutputsChangeOnlyWithTheirInputs := by
  intro i s t hs hw h
  have ht := exec_outputsOfInputs hw h
  obtain ⟨hpolicy, -⟩ := theBlockOnlyReadsItsInputs i s t h
  refine ⟨fun hdecIn => ?_, fun htable k x hx => ?_, fun htable hreq => ?_⟩
  · rw [hs.decoder, ht.decoder, hdecIn]
    exact narrow_sameButFreeBounds ..
  · rw [hs.entries] at hx
    rw [ht.entries, htable]
    exact decodeTable_sameButFreeBounds t.tick hx
  · rw [hs.result, ht.result, htable, hreq, hpolicy]
    exact ⟨resolve_err_tick .., fun herr => (resolve_of_no_err_tick t.tick herr).2.symm⟩

/-- Settles O42: the outputs at reset are computed from the reset inputs, from which the invariant follows. -/
theorem resetMeetsTheInvariant : Obligations.ResetMeetsTheInvariant :=
  have h := reset_outputsOfInputs
  ⟨h.inv, h.decoder, h.entries, h.result⟩

/-- Settles O45: no evaluation reads an output port. -/
theorem nothingIsKeptBetweenEvaluations : Obligations.NothingIsKeptBetweenEvaluations :=
  fun s o r e => ⟨fun i => exec_withOutputs i o r e s, step_withOutputs o r e s⟩

end Sys2Proof.Proofs

/-! PROOFS. The statements about memory: byte ranges whose bounds are multiples of 4 (R44), and accesses of one byte
(R45, R112). -/

namespace Sys2Proof.Machine

/-! ### Word alignment of the bounds -/

/-- Both bounds are multiples of 4, the whole space's end excepted (R44). -/
def Region.WordAligned (r : Region) : Prop := 4 ∣ r.s ∧ (4 ∣ r.e ∨ r = ⟨0, 2 ^ 64 - 1⟩)

theorem four_dvd_byteAddress (a : Word) : 4 ∣ byteAddress a := byteAddress_eq a ▸ Nat.dvd_mul_left 4 _

theorem regionAt_wordAligned {base size : Nat} (hb : 4 ∣ base) (hn : 4 ∣ size) : (regionAt base size).WordAligned :=
  ⟨hb, .inl (dvd_add hb hn)⟩

theorem torRegion_wordAligned (prev : Option Word) (a : Word) : (torRegion prev a).WordAligned := by
  refine ⟨?_, .inl (four_dvd_byteAddress a)⟩
  cases prev with
  | none => exact dvd_zero 4
  | some p => exact four_dvd_byteAddress p

theorem na4Region_wordAligned (a : Word) : (na4Region a).WordAligned :=
  regionAt_wordAligned (four_dvd_byteAddress a) (dvd_refl 4)

theorem napotGeneralRegion_wordAligned (t : Nat) (a : Word) : (napotGeneralRegion t a).WordAligned := by
  have h4 (k : Nat) : 4 ∣ 2 ^ (k + 2) := pow_dvd_pow 2 (Nat.le_add_left 2 k)
  rw [napotGeneralRegion_eq]
  exact regionAt_wordAligned ((h4 t).mul_left _) (h4 (t + 3))

theorem napotRegion_wordAligned (a : Word) : (napotRegion a).WordAligned := by
  rw [napotRegion_eq]
  split
  · exact ⟨dvd_zero 4, .inr rfl⟩
  · split
    · exact na4Region_wordAligned a
    · exact napotGeneralRegion_wordAligned (cto a) a

/-- The four region rules (R94), one by one. -/
theorem regionOf_wordAligned (m : Mode) (prev : Option Word) (a : Word) : (regionOf m prev a).WordAligned := by
  cases m with
  | off => exact ⟨dvd_zero 4, .inl (dvd_zero 4)⟩
  | tor => exact torRegion_wordAligned prev a
  | na4 => exact na4Region_wordAligned a
  | napot => exact napotRegion_wordAligned a

/-! ### Accesses of one byte -/

/-- On one address, a size of 1 asks for `address + 1 ≤ r.e` and no size for `address < r.e`, which is the same. -/
theorem contains_size_one_eq_point (r : Region) {q q' : ReqIn} (haddress : q.reqAddress = q'.reqAddress)
    (hpoint : q.reqSizeValid = false) (hsized : q'.reqSizeValid = true) (hone : q'.reqSize.toNat = 1) :
    contains r q = contains r q' := by
  rw [Bool.eq_iff_iff, contains_iff_covers, contains_iff_covers]
  simp only [Covers, haddress, hpoint, hsized, hone, Nat.lt_iff_add_one_le, if_true, Bool.false_eq_true, if_false]

/-- The byte at an address is inside the address space. -/
theorem sizeOverflows_size_one {q : ReqIn} (hone : q.reqSize.toNat = 1) : sizeOverflows q = false := by
  rw [← Bool.not_eq_true, sizeOverflows_iff, not_not]
  exact fun _ => hone ▸ q.reqAddress.isLt

/-- The scan looks at the request only to ask what a region contains. -/
theorem scan_congr {q q' : ReqIn} (hc : ∀ r, contains r q = contains r q') (index : Nat) (ds : List DecOut) :
    scan q index ds = scan q' index ds := by
  induction ds generalizing index with
  | nil => rfl
  | cons d ds ih => rw [scan, scan, hc, ih]

/-- A request enters the result by its type, its overflow, and what regions contain it. -/
theorem resolve_congr {p : NoMatchPolicy} {tick : Nat} {es : List Entry} {q q' : ReqIn}
    (htype : q.reqType = q'.reqType) (hover : sizeOverflows q = sizeOverflows q')
    (hc : ∀ r, contains r q = contains r q') : resolve p tick es q = resolve p tick es q' := by
  have herr (ds : List DecOut) : errOf q ds = errOf q' ds := by rw [errOf, errOf, reqErr, reqErr, htype, hover]
  simp only [resolve, htype, herr, scan_congr hc]

/-- On one address and type, a size of 1 and no size give one result, also under `err`. -/
theorem resolve_size_one_eq_point {p : NoMatchPolicy} {tick : Nat} {es : List Entry} {q q' : ReqIn}
    (htype : q.reqType = q'.reqType) (haddress : q.reqAddress = q'.reqAddress) (hpoint : q.reqSizeValid = false)
    (hsized : q'.reqSizeValid = true) (hone : q'.reqSize.toNat = 1) :
    resolve p tick es q = resolve p tick es q' := by
  have hover : sizeOverflows q = sizeOverflows q' := by
    rw [sizeOverflows_size_one hone, sizeOverflows, hpoint, Bool.false_and]
  exact resolve_congr htype hover (contains_size_one_eq_point · haddress hpoint hsized hone)

end Sys2Proof.Machine

namespace Sys2Proof.Proofs

open Sys2Proof.Machine

/-- Settles O15: DECODE shows the region of its mode's rule, and each of the four rules gives aligned bounds. -/
theorem boundsAreWordAligned : Obligations.BoundsAreWordAligned := by
  intro d s t h
  obtain rfl : evalRegion d (regionOfPorts d) s = t := Host.Outcome.next.inj h
  rw [evalRegion_decOut, narrow_region]
  exact regionOf_wordAligned ..

/-- Settles O30: the two requests have the type in common, neither runs past the space, and the same regions contain
them; so the results agree also under `err`. -/
theorem sizeOneIsThePointCheck : Obligations.SizeOneIsThePointCheck := by
  intro ty A n s t u ht hu
  rw [exec_requestOp] at ht hu
  obtain rfl := Host.Outcome.next.inj ht
  obtain rfl := Host.Outcome.next.inj hu
  rw [evalRequest_res, evalRequest_res]
  have hres : resolve s.policy (s.tick + 1) s.table (requestPorts false ty A n) =
      resolve s.policy (s.tick + 1) s.table (requestPorts true ty A 1) :=
    resolve_size_one_eq_point rfl rfl rfl rfl rfl
  exact ⟨congrArg ResOut.err hres, fun _ => hres⟩

end Sys2Proof.Proofs

/-! PROOFS. The statements about the encodings: words and operations determine each other (R60 to R71), and the rows and
pseudo-forms whose words these are do what the encoding names (R63, R70, R73). -/

namespace Sys2Proof

/-! ### The word of what decodes -/

theorem encode_decodeRegion (d : DecIn) : encode (decodeRegion d) = ⟨.region, packDecIn d⟩ := by
  rw [decodeRegion]
  cases modeOf d.configByte <;> rfl

theorem encode_decodeNapot (a : Word) : encode (decodeNapot a) = ⟨.napot, a.toNat⟩ := by
  unfold decodeNapot Instr.napotByCount
  split <;> rfl

theorem encode_decodeReq {op : Nat} (h : op < 8) (address size : Word) :
    encode (decodeReq op address size) = ⟨.request, packReq op address size⟩ := by
  interval_cases op <;> rfl

/-- Packing inverts unpacking on a word that fits, format by format. -/
theorem encode_decodeBits {form : Form} {bits : Nat} (h : bits < 2 ^ form.width) :
    encode (decodeBits form bits) = ⟨form, bits⟩ := by
  cases form with
  | perm => exact congrArg _ (Nat.mod_eq_of_lt h)
  | region => rw [decodeBits, encode_decodeRegion, packDecIn_unpackDecIn bits h]
  | napot => exact (encode_decodeNapot _).trans (congrArg _ (Nat.mod_eq_of_lt h))
  | entry => exact congrArg _ (packDecIn_unpackDecIn bits h)
  | table n => rw [decodeBits, encode, unpackTable_length, packTable_unpackTable n bits h]
  | request => rw [decodeBits, encode_decodeReq (op := bits % 2 ^ 3) (Nat.mod_lt _ (by decide)), packReq_unpack bits h]

/-! ### The operation of a packed word -/

theorem decode_packDecIn_region (d : DecIn) : decode ⟨.region, packDecIn d⟩ = .ok (decodeRegion d) := by
  rw [decode_of_lt _ _ (packDecIn_lt d), decodeBits, unpackDecIn_packDecIn]

theorem decode_packDecIn_entry (d : DecIn) : decode ⟨.entry, packDecIn d⟩ = .ok (.decodeEntry d) := by
  rw [decode_of_lt _ _ (packDecIn_lt d), decodeBits, unpackDecIn_packDecIn]

theorem decode_perm (cfg : Byte) : decode ⟨.perm, cfg.toNat⟩ = .ok (.perm cfg) := by
  rw [decode_of_lt _ _ cfg.isLt, decodeBits, BitVec.ofNat_toNat, BitVec.setWidth_eq]

theorem decode_napot (a : Word) : decode ⟨.napot, a.toNat⟩ = .ok (decodeNapot a) := by
  rw [decode_of_lt _ _ a.isLt, decodeBits, BitVec.ofNat_toNat, BitVec.setWidth_eq]

theorem decode_packTable (es : List Entry) : decode ⟨.table es.length, packTable es⟩ = .ok (.decodeAll es) := by
  rw [decode_of_lt _ _ (packTable_lt es), decodeBits, unpackTable_packTable]

theorem decode_packReq {op : Nat} (h : op < 8) (address size : Word) :
    decode ⟨.request, packReq op address size⟩ = .ok (decodeReq op address size) := by
  rw [decode_of_lt _ _ (packReq_lt op h address size), decodeBits, packReq_op op h, packReq_address op h,
    packReq_size op h]

/-! ### What a well-formed instruction is -/

/-- Each opcode row's own check makes its instruction the one the decoder selects from the operands,
one case per format. -/
theorem wellFormed_cases {i : Instr} (hw : WellFormed i) :
    (∃ op address size, op < 8 ∧ i = decodeReq op address size) ∨ (∃ a, i = decodeNapot a) ∨
      (∃ d, i = decodeRegion d) ∨ (∃ cfg, i = .perm cfg) ∨ (∃ d, i = .decodeEntry d) ∨ ∃ es, i = .decodeAll es := by
  cases i
  case perm cfg => exact .inr (.inr (.inr (.inl ⟨cfg, rfl⟩)))
  case decodeEntry d => exact .inr (.inr (.inr (.inr (.inl ⟨d, rfl⟩))))
  case decodeAll es => exact .inr (.inr (.inr (.inr (.inr ⟨es, rfl⟩))))
  case regionOff d => exact .inr (.inr (.inl ⟨d, by rw [decodeRegion, (cfgMatches_iff .off _).mp hw]⟩))
  case regionTor d => exact .inr (.inr (.inl ⟨d, by rw [decodeRegion, (cfgMatches_iff .tor _).mp hw]⟩))
  case regionNa4 d => exact .inr (.inr (.inl ⟨d, by rw [decodeRegion, (cfgMatches_iff .na4 _).mp hw]⟩))
  case regionNapot d => exact .inr (.inr (.inl ⟨d, by rw [decodeRegion, (cfgMatches_iff .napot _).mp hw]⟩))
  case resolvePR A n => exact .inl ⟨0, A, n, by decide, rfl⟩
  case resolvePW A n => exact .inl ⟨1, A, n, by decide, rfl⟩
  case resolvePX A n => exact .inl ⟨2, A, n, by decide, rfl⟩
  case reservedP3 A n => exact .inl ⟨3, A, n, by decide, rfl⟩
  case resolveSR A n => exact .inl ⟨4, A, n, by decide, rfl⟩
  case resolveSW A n => exact .inl ⟨5, A, n, by decide, rfl⟩
  case resolveSX A n => exact .inl ⟨6, A, n, by decide, rfl⟩
  case reservedS3 A n => exact .inl ⟨7, A, n, by decide, rfl⟩
  case regionNapotOver a =>
    have hover := napotByCount_over _ a ((addrMatchesOver_iff a).mp hw) (cto_le a)
    exact .inr (.inl ⟨a, hover.symm⟩)
  -- the rows of a fixed count of trailing ones
  all_goals exact .inr (.inl ⟨_, (decodeNapot_of_matches (by decide) hw).symm⟩)

end Sys2Proof

namespace Sys2Proof.Machine

/-! ### Requests by opcode -/

/-- `req_op` is `req_size_valid` above `req_type` (R64). -/
theorem requestOp_eq_decodeReq (sv : Bool) (ty : BitVec 2) (A n : Word) :
    requestOp sv ty A n = decodeReq (4 * sv.toNat + ty.toNat) A n := by
  have h : ty = 0 ∨ ty = 1 ∨ ty = 2 ∨ ty = 3 := by revert ty; decide
  cases sv <;> rcases h with rfl | rfl | rfl | rfl <;> rfl

theorem reqOp_lt (sv : Bool) (ty : BitVec 2) : 4 * sv.toNat + ty.toNat < 8 := by
  have hsv := sv.toNat_le
  have hty := ty.isLt
  omega

/-- A request of type 3 names no access type, which is an input error on every table; sized or not, it is one evaluation
with its frame. -/
theorem exec_requestOp_reserved (sv : Bool) (A n : Word) (s : State) :
    ∃ t, exec (requestOp sv 3 A n) s = .next t ∧ t.res.err = true ∧ t.req = requestPorts sv 3 A n ∧
      ResolverFrame s t ∧ EntryOutputs s.table t.ent :=
  ⟨_, exec_requestOp .., (resolve_err_iff ..).mpr (.inl rfl), rfl, evalRequest_frame .., decodeTable_entryOutputs ..⟩

/-! ### The pseudo-forms -/

/-- `tor_top` and `na4_at`: the register `B >> 2` is the byte address `B` (R73, R83). -/
theorem byteAddress_shiftRight {B : Nat} (h4 : 4 ∣ B) (hlt : B >>> 2 < 2 ^ 64) :
    byteAddress (BitVec.ofNat 64 (B >>> 2)) = B := by
  rw [byteAddress_eq, BitVec.toNat_ofNat, Nat.mod_eq_of_lt hlt, Nat.shiftRight_eq_div_pow]
  exact Nat.div_mul_cancel h4

/-- A register with a 0 above `t` ones, whatever stands above, has `t` trailing ones. -/
theorem cto_eq_of_pattern {t m : Nat} {a : Word} (ht : t < 64) (ha : a.toNat = 2 ^ (t + 1) * m + (2 ^ t - 1)) :
    cto a = t := by
  have hlt : 2 ^ t - 1 < 2 ^ (t + 1) := by have := Nat.two_pow_pos t; rw [pow_succ]; omega
  rw [← addrMatches_iff t ht, addrMatches, beq_iff_eq, ha, Nat.mul_add_mod, Nat.mod_eq_of_lt hlt]

/-- On such a register REGION.NAPOT, in its general case, starts at `2^(t+3)` times the number above the 0 and
has `2^(t+5)` bytes (R90). -/
theorem napotRegion_of_pattern {t m : Nat} {a : Word} (h1 : 1 ≤ t) (h58 : t ≤ 58)
    (ha : a.toNat = 2 ^ (t + 1) * m + (2 ^ t - 1)) :
    napotRegion a = ⟨2 ^ (t + 3) * m, 2 ^ (t + 3) * m + 2 ^ (t + 5)⟩ := by
  have hcto : cto a = t := cto_eq_of_pattern (by omega) ha
  have hbase : a.toNat / 2 ^ t * 2 ^ (t + 2) = 2 ^ (t + 3) * m := by
    have h := napotBase_eq a
    rw [hcto, ha, Nat.add_sub_cancel] at h
    rw [ha, h, pow_add 2 t 3, pow_succ]
    ring
  rw [napotRegion_eq, hcto, if_neg (by omega), if_neg (by omega), napotGeneralRegion_eq, hbase]

/-- `napot(B, e)` with `e = t + 5` and `B = 2^(t+3) * m`: `B >> 2` leaves room for the `t` ones and the 0 above them. -/
theorem napotRegister_toNat {t m : Nat} (hfit : 2 ^ (t + 3) * m + 2 ^ (t + 5) ≤ 2 ^ 64 - 1) :
    (BitVec.ofNat 64 ((2 ^ (t + 3) * m) >>> 2 ||| (2 ^ t - 1))).toNat = 2 ^ (t + 1) * m + (2 ^ t - 1) := by
  have hpos := Nat.two_pow_pos t
  have hquarter : 2 ^ (t + 3) * m = 2 ^ (t + 1) * m * 2 ^ 2 := by ring
  have hshift : (2 ^ (t + 3) * m) >>> 2 = 2 ^ (t + 1) * m := by
    rw [Nat.shiftRight_eq_div_pow, hquarter, Nat.mul_div_cancel _ (by decide)]
  have hor : 2 ^ (t + 1) * m ||| (2 ^ t - 1) = 2 ^ (t + 1) * m + (2 ^ t - 1) :=
    (Nat.two_pow_add_eq_or_of_lt (by rw [pow_succ]; omega) m).symm
  have hlt : 2 ^ (t + 1) * m + (2 ^ t - 1) < 2 ^ 64 := by
    have hsize : 2 ^ (t + 5) = 32 * 2 ^ t := by ring
    omega
  rw [hshift, hor, BitVec.toNat_ofNat, Nat.mod_eq_of_lt hlt]

theorem napotRegion_pseudoForm {B e : Nat} (h6 : 6 ≤ e) (h63 : e ≤ 63) (hdvd : 2 ^ (e - 2) ∣ B)
    (hfit : B + 2 ^ e ≤ 2 ^ 64 - 1) :
    napotRegion (BitVec.ofNat 64 ((B >>> 2) ||| (2 ^ (e - 5) - 1))) = ⟨B, B + 2 ^ e⟩ := by
  obtain ⟨t, rfl⟩ : ∃ t, e = t + 5 := ⟨e - 5, by omega⟩
  obtain ⟨m, rfl⟩ := hdvd
  exact napotRegion_of_pattern (by omega) (by omega) (napotRegister_toNat hfit)

/-- `napot_all`: 59 ones select the whole space (R89). -/
theorem napotRegion_allOnes59 : napotRegion (BitVec.ofNat 64 (2 ^ 59 - 1)) = ⟨0, 2 ^ 64 - 1⟩ := by
  have hcto : cto (BitVec.ofNat 64 (2 ^ 59 - 1)) = 59 := cto_eq_of_pattern (m := 0) (by decide) rfl
  rw [napotRegion_eq, hcto, if_pos rfl, napotAllRegion_eq]

/-- DECODE on a byte of a known mode shows the region of that mode's rule (R94). -/
theorem decodeEntry_decOut {d : DecIn} {s t : State} {m : Mode} (hm : modeOf d.configByte = m)
    (h : exec (.decodeEntry d) s = .next t) : t.decOut =
      narrow (s.tick + 1) .alone (perm d.configByte) (regionOf m (prevOperand d) d.addressRegister) := by
  obtain rfl : evalRegion d (regionOfPorts d) s = t := Host.Outcome.next.inj h
  rw [evalRegion_decOut, regionOfPorts, hm]

end Sys2Proof.Machine

namespace Sys2Proof.Proofs

open Sys2Proof.Machine

/-- Settles O34: a well-formed instruction is what the decoder selects from its operands, and of those, format by
format, unpacking inverts packing. -/
theorem decodeOfEncode : Obligations.DecodeOfEncode := by
  intro i hw
  obtain ⟨op, A, n, hop, rfl⟩ | ⟨a, rfl⟩ | ⟨d, rfl⟩ | ⟨cfg, rfl⟩ | ⟨d, rfl⟩ | ⟨es, rfl⟩ := wellFormed_cases hw
  · rw [encode_decodeReq hop, decode_packReq hop]
  · rw [encode_decodeNapot, decode_napot]
  · rw [encode_decodeRegion, decode_packDecIn_region]
  · exact decode_perm cfg
  · exact decode_packDecIn_entry d
  · exact decode_packTable es

/-- Settles O35: what decodes passes its row's check, and on a word that fits packing inverts unpacking. -/
theorem encodeOfDecode : Obligations.EncodeOfDecode := by
  intro o i h
  refine ⟨decode_wellFormed h, ?_⟩
  obtain ⟨hfits, rfl⟩ := decode_eq_ok h
  exact encode_decodeBits hfits

/-- Settles O9: the 58 rows are one evaluation, each with its own count. -/
theorem everyNapotRowCompletes : Obligations.EveryNapotRowCompletes := by
  intro k a s h1 h58 _
  refine ⟨_, exec_napotRow k a s h1 h58, ?_, evalNapotCase_frame ..⟩
  rw [evalNapotCase_decOut, napotGeneralRegion_eq]
  exact narrow_shows ..

/-- Settles O20: each form's register, put through the rule of its mode, gives the region it names. -/
theorem pseudoFormsDecodeToTheirRegions : Obligations.PseudoFormsDecodeToTheirRegions := by
  refine ⟨fun B d s t h4 hlt hm ha h => ?_, fun B d s t h4 hlt hm ha h => ?_,
    fun B e d s t h6 h63 hdvd hfit hm ha h => ?_, fun d s t hm ha h => ?_⟩ <;>
    rw [decodeEntry_decOut hm h, ha]
  · exact byteAddress_shiftRight h4 hlt
  · rw [narrow_region, regionOf, na4Region, byteAddress_shiftRight h4 hlt]
    rfl
  · rw [regionOf, napotRegion_pseudoForm h6 h63 hdvd hfit]
    exact narrow_shows ..
  · rw [regionOf, napotRegion_allOnes59]
    exact narrow_shows ..

/-- Settles O25: both opcodes are requests of type 3. -/
theorem reservedRequestTypeDrivesErr : Obligations.ReservedRequestTypeDrivesErr :=
  fun A n s => ⟨exec_requestOp_reserved false A n s, exec_requestOp_reserved true A n s⟩

/-- Settles O47: the eight request operations are those of the eight opcodes, whose words are packed requests. -/
theorem requestOpcodeIsSizePresenceAndType : Obligations.RequestOpcodeIsSizePresenceAndType := by
  intro sv ty A n
  have hop := reqOp_lt sv ty
  rw [requestOp_eq_decodeReq]
  exact ⟨encode_decodeReq hop A n, decode_packReq hop A n⟩

/-- Settles O36: the width is all the decoder asks of a word. -/
theorem onlyTooWideWordsAreRefused : Obligations.OnlyTooWideWordsAreRefused :=
  fun o => ⟨fun h => ⟨_, decode_of_lt o.form o.bits h⟩, fun h => if_neg (Nat.not_lt.mpr h)⟩

/-- Settles O37: the decoder, run on each word. -/
theorem writtenOutWordsDecode : Obligations.WrittenOutWordsDecode :=
  ⟨rfl, rfl, rfl, rfl, rfl, rfl, rfl, rfl, rfl, rfl, rfl, rfl, rfl⟩

end Sys2Proof.Proofs

/-! PROOFS. The statements about the decoder: the flags (R80, R81), the region rules (R85 to R93), DECODE and DECODE_ALL
(R94 to R97), and what of a table reaches a result (R82, R96, R127). -/

namespace Sys2Proof.Machine

/-! ### One evaluation of the decoder -/

theorem evalRegion_shows {r : Region} {b e : Nat} (hr : r = ⟨b, e⟩) (d : DecIn) (s : State) :
    Shows (evalRegion d r s).decOut b e := by
  subst hr
  exact narrow_shows ..

theorem evalRegion_flagBits (d : DecIn) (r : Region) (s : State) :
    FlagBits (evalRegion d r s).decOut.flags d.configByte := perm_flagBits _

theorem evalNapotCase_shows {r : Region} {b e : Nat} (hr : r = ⟨b, e⟩) (a : Word) (s : State) :
    Shows (evalNapotCase a r s).decOut b e := evalRegion_shows hr _ s

/-- The region operation that the byte selects is the evaluation of DECODE (R94). -/
theorem exec_decodeRegion (d : DecIn) (s : State) :
    exec (decodeRegion d) s = .next (evalRegion d (regionOfPorts d) s) := by
  rw [decodeRegion, regionOfPorts]
  cases modeOf d.configByte <;> rfl

/-! ### The NAPOT rule by its three cases (R88) -/

theorem napotRegion_of_cto_eq_59 {a : Word} (h : cto a = 59) : napotRegion a = ⟨0, 2 ^ 64 - 1⟩ := by
  rw [napotRegion_eq, if_pos h, napotAllRegion_eq]

theorem napotRegion_of_cto_eq_zero {a : Word} (h : cto a = 0) : napotRegion a = ⟨a.toNat * 4, a.toNat * 4 + 4⟩ := by
  rw [napotRegion_eq, if_neg (by omega), if_pos h, napotFallbackRegion_eq]

theorem napotRegion_general {a : Word} (h0 : cto a ≠ 0) (h59 : cto a ≠ 59) :
    napotRegion a = ⟨a.toNat / 2 ^ cto a * 2 ^ (cto a + 2),
      a.toNat / 2 ^ cto a * 2 ^ (cto a + 2) + 2 ^ (cto a + 5)⟩ := by
  rw [napotRegion_eq, if_neg h59, if_neg h0, napotGeneralRegion_eq]

/-- The 0 above the trailing ones doubles the alignment of the base. -/
theorem two_pow_dvd_napotBase (a : Word) : 2 ^ (cto a + 3) ∣ a.toNat / 2 ^ cto a * 2 ^ (cto a + 2) := by
  obtain ⟨m, hm⟩ := Nat.dvd_of_mod_eq_zero (div_cto_even a)
  exact ⟨m, by rw [hm]; ring⟩

/-- The base is a multiple of the size when the number above the ones is one of 8, whose bit 0 is 0 anyway. -/
theorem size_dvd_napotBase_iff (a : Word) :
    2 ^ (cto a + 5) ∣ a.toNat / 2 ^ cto a * 2 ^ (cto a + 2) ↔
      a.getLsbD (cto a + 1) = false ∧ a.getLsbD (cto a + 2) = false := by
  have hsize : 2 ^ (cto a + 5) = 8 * 2 ^ (cto a + 2) := by ring
  have heven := div_cto_even a
  rw [getLsbD_eq_false_iff, getLsbD_eq_false_iff, hsize, Nat.mul_dvd_mul_iff_right (Nat.two_pow_pos _),
    pow_add 2 _ 1, pow_add 2 _ 2, ← Nat.div_div_eq_div_mul, ← Nat.div_div_eq_div_mul]
  omega

/-! ### The whole space (R89) -/

/-- Its only limit on a point is the end, `2^64 - 1`, which is the top address. -/
theorem contains_wholeSpace_point {q : ReqIn} (hq : q.reqSizeValid = false) :
    contains ⟨0, 2 ^ 64 - 1⟩ q = true ↔ q.reqAddress.toNat ≠ 2 ^ 64 - 1 := by
  have hlt := q.reqAddress.isLt
  simp only [contains_iff_covers, Covers, hq, Bool.false_eq_true, if_false, ne_eq, Region.mk.injEq]
  omega

theorem contains_wholeSpace_sized {q : ReqIn} (hq : q.reqSizeValid = true) :
    contains ⟨0, 2 ^ 64 - 1⟩ q = true ↔ q.reqAddress.toNat + q.reqSize.toNat ≤ 2 ^ 64 - 1 := by
  simp only [contains_iff_covers, Covers, hq, if_true, ne_eq, Region.mk.injEq]
  omega

/-! ### The architected domain (R96) -/

/-- A register below `2^54` has no 55 trailing ones. -/
theorem cto_le_of_architected {a : Word} (ha : a.toNat < 2 ^ 54) : cto a ≤ 54 := by
  by_contra hlt
  have hones := (le_cto_iff a 55 (by decide)).mp (by omega)
  omega

/-- The base is at most the register times 4, and the size at most `2^59`. -/
theorem napotRegion_fits {a : Word} (ha : a.toNat < 2 ^ 54) : (napotRegion a).fits = true := by
  have hcto := cto_le_of_architected ha
  rw [fits_iff]
  by_cases h0 : cto a = 0
  · rw [napotRegion_of_cto_eq_zero h0]
    dsimp only
    omega
  · have hbase := napotBase_eq a
    have hsize : 2 ^ (cto a + 5) ≤ 2 ^ 59 := Nat.pow_le_pow_right (by decide) (by omega)
    rw [napotRegion_general h0 (by omega), hbase]
    dsimp only
    omega

theorem regionOf_fits {m : Mode} {prev : Option Word} {a : Word} (ha : a.toNat < 2 ^ 54)
    (hp : ∀ p, prev = some p → p.toNat < 2 ^ 54) : (regionOf m prev a).fits = true := by
  cases m with
  | off => rfl
  | tor =>
    rw [fits_iff]
    cases prev with
    | none => simp only [regionOf, torRegion, byteAddress_eq]; omega
    | some p =>
      have hp := hp p rfl
      simp only [regionOf, torRegion, byteAddress_eq]
      omega
  | na4 =>
    rw [fits_iff, regionOf, na4Region_eq]
    dsimp only
    omega
  | napot => exact napotRegion_fits ha

theorem regionOfPorts_fits {d : DecIn} (ha : d.addressRegister.toNat < 2 ^ 54)
    (hp : d.prevValid = true → d.prevAddressRegister.toNat < 2 ^ 54) : (regionOfPorts d).fits = true := by
  refine regionOf_fits ha fun p h => ?_
  obtain ⟨hvalid, rfl⟩ : d.prevValid = true ∧ d.prevAddressRegister = p := by simpa [prevOperand] using h
  exact hp hvalid

/-- The register before an entry is that of an entry of the table. -/
theorem exists_mem_of_prevOf {es : List Entry} {k : Nat} {p : Word} (h : prevOf es k = some p) : ∃ e ∈ es, e.a = p := by
  rw [prevOf, Option.ite_none_left_eq_some, Option.map_eq_some_iff] at h
  obtain ⟨-, e, he, hp⟩ := h
  exact ⟨e, List.mem_of_getElem? he, hp⟩

theorem tableFits_of_architected {es : List Entry} (h : ∀ e ∈ es, e.a.toNat < 2 ^ 54) : TableFits es := by
  intro k e he
  refine (fits_iff _).mp (regionOf_fits (h e (List.mem_of_getElem? he)) fun p hp => ?_)
  obtain ⟨f, hf, rfl⟩ := exists_mem_of_prevOf hp
  exact h f hf

theorem rangeErr_of_tableFits {es : List Entry} (h : TableFits es) (tick : Nat) :
    ∀ d ∈ decodeTable tick es, d.rangeErr = false := by
  intro d hd
  rw [← Bool.not_eq_true]
  exact fun hr => (any_rangeErr_iff tick es).mp (List.any_eq_true.mpr ⟨d, hd, hr⟩) h

/-! ### What of a neighbour reaches an entry (R84) -/

/-- The neighbours enter by their registers alone. -/
theorem prevOf_congr {es fs : List Entry} (h : es.map (·.a) = fs.map (·.a)) (k : Nat) : prevOf es k = prevOf fs k := by
  rw [prevOf, prevOf, ← List.getElem?_map, ← List.getElem?_map, h]

theorem entryRegion_congr {es fs : List Entry} (h : es.map (·.a) = fs.map (·.a)) (k : Nat) (e : Entry) :
    entryRegion es k e = entryRegion fs k e := by
  rw [entryRegion, entryRegion, prevOf_congr h]

/-! ### What of a byte reaches the outputs (R81, R82) -/

/-- The entry with its byte put through `g`. -/
def mapByte (g : Byte → Byte) (e : Entry) : Entry := { e with cfg := g e.cfg }

/-- The outputs with their flags put through `h`. -/
def DecOut.mapFlags (h : Flags → Flags) (d : DecOut) : DecOut := { d with flags := h d.flags }

/-- The flags without the lock. -/
def Flags.unlock (f : Flags) : Flags := { f with locked := false }

theorem perm_and_9F (cfg : Byte) : perm (cfg &&& 0x9F) = perm cfg := by
  revert cfg; decide

theorem perm_and_1F (cfg : Byte) : perm (cfg &&& 0x1F) = (perm cfg).unlock := by
  revert cfg; decide

theorem modeOf_and_9F (cfg : Byte) : modeOf (cfg &&& 0x9F) = modeOf cfg := congrArg Flags.mode (perm_and_9F cfg)

theorem modeOf_and_1F (cfg : Byte) : modeOf (cfg &&& 0x1F) = modeOf cfg := congrArg Flags.mode (perm_and_1F cfg)

theorem regionOfPorts_and_9F (d : DecIn) :
    regionOfPorts { d with configByte := d.configByte &&& 0x9F } = regionOfPorts d := by
  simp only [regionOfPorts, modeOf_and_9F]; rfl

/-- A change of the bytes that leaves the modes is, on a table's outputs, a change of the flags. -/
theorem decodeTable_mapByte {g : Byte → Byte} {h : Flags → Flags} (hmode : ∀ c, modeOf (g c) = modeOf c)
    (hflags : ∀ c, perm (g c) = h (perm c)) (tick : Nat) (es : List Entry) :
    decodeTable tick (es.map (mapByte g)) = (decodeTable tick es).map (DecOut.mapFlags h) := by
  refine List.ext_getElem? fun k => ?_
  have hregs : (es.map (mapByte g)).map (·.a) = es.map (·.a) := by rw [List.map_map]; rfl
  have hregion (e : Entry) : entryRegion (es.map (mapByte g)) k (mapByte g e) = entryRegion es k e := by
    rw [entryRegion_congr hregs, entryRegion, mapByte, hmode, entryRegion]
  rw [List.getElem?_map, decodeTable_getElem?, decodeTable_getElem?, List.getElem?_map]
  cases es[k]? with
  | none => rfl
  | some e =>
    simp only [Option.map_some, hregion]
    rw [mapByte, hflags]
    rfl

theorem decodeTable_and_9F (tick : Nat) (es : List Entry) :
    decodeTable tick (es.map (mapByte (· &&& 0x9F))) = decodeTable tick es :=
  (decodeTable_mapByte (h := id) modeOf_and_9F perm_and_9F tick es).trans (List.map_id _)

theorem decodeTable_and_1F (tick : Nat) (es : List Entry) :
    decodeTable tick (es.map (mapByte (· &&& 0x1F))) = (decodeTable tick es).map (DecOut.mapFlags Flags.unlock) :=
  decodeTable_mapByte modeOf_and_1F perm_and_1F tick es

/-- The scan hands the flags on and does not look at them. -/
theorem scan_mapFlags (h : Flags → Flags) (q : ReqIn) (index : Nat) (ds : List DecOut) :
    scan q index (ds.map (DecOut.mapFlags h)) = (scan q index ds).map (Prod.map id h) := by
  induction ds generalizing index with
  | nil => rfl
  | cons d ds ih =>
    rw [List.map_cons, scan, scan, ih, show (d.mapFlags h).region = d.region from rfl]
    cases contains d.region q <;> rfl

theorem errOf_mapFlags (h : Flags → Flags) (q : ReqIn) (ds : List DecOut) :
    errOf q (ds.map (DecOut.mapFlags h)) = errOf q ds := by
  rw [errOf, errOf, List.any_map]
  rfl

/-- A result is made of the permission bits of the flags found. -/
theorem resultOf_unlock (p : NoMatchPolicy) (ty : AccessType) (m : Option (Nat × Flags)) :
    resultOf p ty (m.map (Prod.map id Flags.unlock)) = resultOf p ty m := by
  rcases m with _ | ⟨i, f⟩
  · rfl
  · cases ty <;> rfl

theorem resolve_and_1F (p : NoMatchPolicy) (tick : Nat) (es : List Entry) (q : ReqIn) :
    resolve p tick (es.map (mapByte (· &&& 0x1F))) q = resolve p tick es q := by
  simp only [resolve, decodeTable_and_1F, errOf_mapFlags, scan_mapFlags, resultOf_unlock, List.length_map]

/-- Tables of the same registers and the same low five bits are one table once those bits alone are kept. -/
theorem map_and_1F_congr {es fs : List Entry}
    (h : es.map (fun e => (e.a, e.cfg &&& 0x1F)) = fs.map (fun e => (e.a, e.cfg &&& 0x1F))) :
    es.map (mapByte (· &&& 0x1F)) = fs.map (mapByte (· &&& 0x1F)) := by
  have := congrArg (List.map fun p => Entry.mk p.1 p.2) h
  rwa [List.map_map, List.map_map] at this

/-! ### Steps -/

theorem exec_completes (i : Instr) (s : State) : ∃ t, exec i s = .next t := by
  obtain ⟨d, r, h⟩ | ⟨es, rfl⟩ | ⟨q, h⟩ := exec_kind i
  · exact ⟨_, h s⟩
  · exact ⟨_, rfl⟩
  · exact ⟨_, h s⟩

theorem step_of_program_nil {s : State} (hp : s.program = []) : step s = exec (.decodeAll s.table) s := by
  rw [step, fetch, hp]

theorem step_of_decode_ok {s : State} {o : OpWord} {rest : List OpWord} {i : Instr} (hp : s.program = o :: rest)
    (hd : decode o = .ok i) : step s = exec i (s.setProgram rest) := by
  simp only [step, fetch, hp, hd]

theorem step_of_decode_error {s : State} {o : OpWord} {rest : List OpWord} {why : DecodeError}
    (hp : s.program = o :: rest) (hd : decode o = .error why) : step s = .refused (.notAnOperation why) := by
  simp only [step, fetch, hp, hd]

end Sys2Proof.Machine

namespace Sys2Proof.Proofs

open Sys2Proof.Machine

/-- Settles O2: bits 6 and 5 are no flag's and not the mode's, entry by entry. -/
theorem bits6And5AreIgnored : Obligations.Bits6And5AreIgnored := by
  refine ⟨fun cfg s t u ht hu => ?_, fun d s t u ht hu => ?_, fun E s t u ht hu => ?_⟩ <;>
    obtain rfl := Host.Outcome.next.inj ht <;> obtain rfl := Host.Outcome.next.inj hu
  · have hregion := regionOfPorts_and_9F { s.decIn with configByte := cfg }
    rw [evalPerm, evalPerm, evalRegion_decOut, evalRegion_decOut, perm_and_9F, hregion]
  · rw [evalRegion_decOut, evalRegion_decOut, perm_and_9F, regionOfPorts_and_9F]
  · exact (decodeTable_and_9F _ E).symm

/-- Settles O4: a bound times 4 exceeds 64 bits from the register `2^62` on. -/
theorem regionTorRunsFromPreviousRegister : Obligations.RegionTorRunsFromPreviousRegister := by
  intro d s _
  obtain ⟨hregion, herr, hports⟩ := evalRegion_shows (torRegion_eq d) d s
  refine ⟨_, rfl, ⟨hregion, herr, hports⟩, herr.trans ?_, evalRegion_flagBits .., rfl, evalRegion_frame ..⟩
  cases d.prevValid <;> simp only [if_true, Bool.false_eq_true, if_false, true_and, false_and, or_false] <;> omega

/-- Settles O5: the end, 4 above the start, exceeds 64 bits first. -/
theorem regionNa4IsFourBytes : Obligations.RegionNa4IsFourBytes := by
  intro d s _
  obtain ⟨hregion, herr, hports⟩ := evalRegion_shows (na4Region_eq d.addressRegister) d s
  exact ⟨_, rfl, ⟨hregion, herr, hports⟩, herr.trans (by omega), evalRegion_flagBits .., rfl, evalRegion_frame ..⟩

/-- Settles O6: the three cases of the NAPOT rule, one by one. -/
theorem regionNapotDispatchesOnTrailingOnes : Obligations.RegionNapotDispatchesOnTrailingOnes := by
  rintro d s c _ rfl
  refine ⟨_, rfl, fun h => ?_, fun h => ?_, fun h0 h59 => ?_, evalRegion_flagBits .., rfl, evalRegion_frame ..⟩
  · exact evalRegion_shows (napotRegion_of_cto_eq_59 (by omega)) d s
  · exact evalRegion_shows (napotRegion_of_cto_eq_zero h) d s
  · exact evalRegion_shows (napotRegion_general h0 (by omega)) d s

/-- Settles O8: the row of the register's own count is the one it decodes to; the base is even above the ones. -/
theorem napotGeneralCaseRegion : Obligations.NapotGeneralCaseRegion := by
  rintro a s c rfl h0 h59
  have hshows := evalNapotCase_shows (napotRegion_general h0 h59) a s
  exact ⟨_, _, exec_decodeNapot a s, rfl, napotBase_eq a, hshows, evalNapotCase_frame ..,
    fun _ => (getLsbD_eq_false_iff a _).mpr (div_cto_even a), two_pow_dvd_napotBase a, size_dvd_napotBase_iff a⟩

/-- Settles O10: the region is fixed, and 59 ones make the register `2^59 - 1` at least. -/
theorem napotWholeSpaceRegion : Obligations.NapotWholeSpaceRegion := by
  intro a s hw
  have hlarge : 2 ^ 54 ≤ a.toNat := by
    have hpattern : a.toNat % 2 ^ (59 + 1) = 2 ^ 59 - 1 := beq_iff_eq.mp hw
    omega
  exact ⟨_, rfl, evalNapotCase_shows napotAllRegion_eq a s, rfl, evalNapotCase_frame ..,
    fun _ hq => contains_wholeSpace_point hq, fun _ hq => contains_wholeSpace_sized hq, hlarge⟩

/-- Settles O11: the two rows have one formula; the register is even, so it is not `2^62 - 1`. -/
theorem napotFallbackRegion : Obligations.NapotFallbackRegion := by
  intro a s hw
  have heven : a.toNat % 2 ^ (0 + 1) = 2 ^ 0 - 1 := beq_iff_eq.mp hw
  obtain ⟨hregion, herr, hports⟩ := evalNapotCase_shows (napotFallbackRegion_eq a) a s
  refine ⟨_, rfl, ⟨hregion, herr, hports⟩, herr.trans (by omega), evalNapotCase_frame .., ?_⟩
  rintro d u rfl hu
  obtain rfl := Host.Outcome.next.inj hu
  rfl

/-- Settles O12: the size alone exceeds 64 bits; all ones leave nothing above them for the base. -/
theorem napotOverAlwaysRangeErr : Obligations.NapotOverAlwaysRangeErr := by
  intro a s hw
  have h60 : 60 ≤ cto a := (addrMatchesOver_iff a).mp hw
  have hsize : 2 ^ 65 ≤ 2 ^ (cto a + 5) := Nat.pow_le_pow_right (by decide) (by omega)
  obtain ⟨hregion, herr, hports⟩ := evalNapotCase_shows (napotGeneralRegion_eq (cto a) a) a s
  refine ⟨_, rfl, ⟨hregion, herr, hports⟩, hsize, herr.mpr (.inr (by omega)), fun hones => ?_, evalNapotCase_frame ..⟩
  have h64 : 64 ≤ cto a := (le_cto_iff a 64 le_rfl).mpr (by rw [hones]; rfl)
  have hcto : cto a = 64 := le_antisymm (cto_le a) h64
  rw [hregion, hcto, hones]
  rfl

/-- Settles O13: the row a register decodes to has the region of the whole NAPOT rule. -/
theorem napotAgreesWithItsSubcase : Obligations.NapotAgreesWithItsSubcase := by
  intro d s t u ht hu
  rw [exec_decodeNapot] at hu
  obtain rfl := Host.Outcome.next.inj ht
  obtain rfl := Host.Outcome.next.inj hu
  obtain ⟨-, hflags, hmode, -⟩ := evalNapotCase_frame d.addressRegister (napotRegion d.addressRegister) s
  exact ⟨rfl, hflags, hmode⟩

/-- Settles O14: the whole space, `n = 2` in the fallback, and `n = c + 5` with `c` ones in the general case. -/
theorem napotSizesAndAlignment : Obligations.NapotSizesAndAlignment := by
  intro d s t ht
  obtain rfl : evalRegion d (napotRegion d.addressRegister) s = t := Host.Outcome.next.inj ht
  rw [evalRegion_decOut, narrow_region]
  by_cases h59 : cto d.addressRegister = 59
  · exact .inl ⟨napotRegion_of_cto_eq_59 h59, h59⟩
  · by_cases h0 : cto d.addressRegister = 0
    · rw [napotRegion_of_cto_eq_zero h0]
      exact .inr ⟨2, .inl rfl, rfl, one_dvd _⟩
    · rw [napotRegion_general h0 h59]
      exact .inr ⟨cto d.addressRegister + 5, .inr (by omega), rfl, two_pow_dvd_napotBase _⟩

/-- Settles O16: DECODE and the selected region operation are one evaluation. -/
theorem decodeIsThePermAndTheSelectedRegion : Obligations.DecodeIsThePermAndTheSelectedRegion :=
  fun d s => ⟨_, rfl, exec_decodeRegion d s, decodeRegion_wellFormed d, evalRegion_flagBits ..,
    evalRegion_shows rfl d s, rfl, evalRegion_frame ..⟩

/-- Settles O17: each mode's region fits when the registers are architected. -/
theorem architectedEntryNeverRangeErrs : Obligations.ArchitectedEntryNeverRangeErrs := by
  intro d s ha hp
  obtain ⟨-, -, hbounds⟩ := evalRegion_shows (r := regionOfPorts d) rfl d s
  have herr : (evalRegion d (regionOfPorts d) s).decOut.rangeErr = false := by
    rw [evalRegion_decOut, narrow_rangeErr, regionOfPorts_fits ha hp, Bool.not_true]
  exact ⟨_, rfl, herr, hbounds herr⟩

/-- Settles O18: the fold in closed form. -/
theorem decodeAllThreadsTheRawRegister : Obligations.DecodeAllThreadsTheRawRegister :=
  fun E s => ⟨_, rfl, decodeTable_entryOutputs _ E, rfl, evalTable_outputsOfInputs E s⟩

/-- Settles O19: entry `k` is the same pair in both tables, after the same register. -/
theorem neighboursByteDoesNotMatter : Obligations.NeighboursByteDoesNotMatter := by
  intro E F s t u k x y hregs hk ht hu hx hy
  obtain rfl := Host.Outcome.next.inj ht
  obtain rfl := Host.Outcome.next.inj hu
  rw [evalTable_ent, decodeTable_getElem?] at hx hy
  simp only [hk, entryRegion_congr hregs] at hx
  exact Option.some.inj (hx.symm.trans hy)

/-- Settles O29: a table and the one of the low five bits of its bytes have one result, also under `err`, and the same
outputs but for the lock. -/
theorem lockAndIgnoredBitsChangeNoResult : Obligations.LockAndIgnoredBitsChangeNoResult := by
  intro sv ty A n s t u F hsame ht hu
  rw [exec_requestOp] at ht hu
  obtain rfl := Host.Outcome.next.inj ht
  obtain rfl := Host.Outcome.next.inj hu
  have htables := map_and_1F_congr hsame
  have hres : resolve s.policy (s.tick + 1) s.table (requestPorts sv ty A n) =
      resolve s.policy (s.tick + 1) F (requestPorts sv ty A n) := by
    rw [← resolve_and_1F, htables, resolve_and_1F]
  have hent := congrArg (decodeTable (s.tick + 1)) htables
  rw [decodeTable_and_1F, decodeTable_and_1F] at hent
  exact ⟨congrArg ResOut.err hres, fun _ => hres, hent⟩

/-- Settles O33: an architected table fits, and the request is legal. -/
theorem architectedTableNeverErrs : Obligations.ArchitectedTableNeverErrs := by
  intro sv ty A n s harch hty hspace
  have hfits := tableFits_of_architected harch
  refine ⟨_, exec_requestOp .., ?_, rangeErr_of_tableFits hfits _⟩
  rw [evalRequest_res, ← Bool.not_eq_true, resolve_err_iff]
  rintro (h | h | h)
  · exact hty h
  · exact h hspace
  · exact h hfits

/-- Settles O1: PERM presents the byte, and every output follows it. -/
theorem permExtractsTheFlagBits : Obligations.PermExtractsTheFlagBits :=
  fun cfg s => ⟨_, rfl, evalRegion_flagBits .., rfl, evalRegion_shows rfl _ s, evalPerm_frame cfg s⟩

/-- Settles O3: "no region" fits 64 bits. -/
theorem regionOffIsNoRegion : Obligations.RegionOffIsNoRegion :=
  fun d s _ => ⟨_, rfl, evalRegion_shows rfl d s, rfl, evalRegion_flagBits .., rfl, evalRegion_frame ..⟩

/-- Settles O40: every kind of evaluation answers a next state, and a step runs one unless its word is too wide. -/
theorem nothingButAnIllFormedWordStops : Obligations.NothingButAnIllFormedWordStops := by
  refine ⟨exec_completes, fun s => ?_⟩
  cases hp : s.program with
  | nil => exact .inl (step_of_program_nil hp ▸ exec_completes ..)
  | cons o rest =>
    obtain ⟨hfits, hwide⟩ := onlyTooWideWordsAreRefused o
    rcases Nat.lt_or_ge o.bits (2 ^ o.form.width) with h | h
    · obtain ⟨i, hd⟩ := hfits h
      exact .inl (step_of_decode_ok hp hd ▸ exec_completes ..)
    · exact .inr ⟨o, rest, rfl, h, step_of_decode_error hp (hwide h)⟩

end Sys2Proof.Proofs

/-! PROOFS. The statements about the resolver: containment (R110 to R113), the priority scan and its result (R114 to
R117, R126, R128), the six RESOLVE operations (R118 to R123) and the no-match policy (R125). -/

namespace Sys2Proof.Machine

/-! ### Legal requests -/

theorem not_inSpace_requestPorts (sv : Bool) (ty : BitVec 2) (A n : Word) :
    ¬ InSpace (requestPorts sv ty A n) ↔ sv = true ∧ A.toNat + n.toNat > 2 ^ 64 := by
  rw [InSpace, Classical.not_imp, Nat.not_le]
  rfl

/-- On a type that is not reserved, `err` is left to the size and the table. -/
theorem resolve_err_iff_of_type {p : NoMatchPolicy} {tick : Nat} {es : List Entry} {q : ReqIn} (hty : q.reqType ≠ 3) :
    (resolve p tick es q).err = true ↔ ¬ InSpace q ∨ ¬ TableFits es := by
  rw [resolve_err_iff, or_iff_right hty]

/-- A legal request on a table that fits has the scan's result. -/
theorem resolve_of_legal (p : NoMatchPolicy) (tick : Nat) {es : List Entry} {q : ReqIn} (hty : q.reqType ≠ 3)
    (hspace : InSpace q) (hfits : TableFits es) : ∃ ty, accessTypeOf q.reqType = some ty ∧
      resolve p tick es q = resultOf p ty (scan q 0 (decodeTable tick es)) := by
  have herr : (resolve p tick es q).err = false := by
    rw [← Bool.not_eq_true, resolve_err_iff_of_type hty, not_or, not_not, not_not]
    exact ⟨hspace, hfits⟩
  obtain ⟨ty, ht, -, hr⟩ := resolve_of_no_err herr
  exact ⟨ty, ht, hr⟩

theorem tableFits_nil : TableFits [] := nofun

/-! ### The scan of a table (R114) -/

/-- A scan of a table stops at the first entry whose region contains the access, and hands on that entry's flags. -/
theorem scan_decodeTable_eq_some {q : ReqIn} {tick : Nat} {es : List Entry} {i : Nat} {f : Flags}
    (h : scan q 0 (decodeTable tick es) = some (i, f)) : ∃ e, es[i]? = some e ∧ Covers (entryRegion es i e) q ∧
      f = perm e.cfg ∧ ∀ j g, j < i → es[j]? = some g → ¬ Covers (entryRegion es j g) q := by
  obtain ⟨k, d, rfl, hk, hc, rfl, hmin⟩ := (scan_eq_some_iff ..).mp h
  rw [decodeTable_getElem?, Option.map_eq_some_iff] at hk
  obtain ⟨e, he, rfl⟩ := hk
  rw [Nat.zero_add]
  refine ⟨e, he, (contains_iff_covers ..).mp hc, rfl, fun j g hj hg => ?_⟩
  rw [← contains_iff_covers, Bool.not_eq_true]
  exact hmin j _ hj (by rw [decodeTable_getElem?, hg]; rfl)

theorem scan_decodeTable_eq_none {q : ReqIn} {tick : Nat} {es : List Entry}
    (h : scan q 0 (decodeTable tick es) = none) (k : Nat) (e : Entry) (he : es[k]? = some e) :
    ¬ Covers (entryRegion es k e) q := by
  rw [← contains_iff_covers, Bool.not_eq_true]
  exact (scan_eq_none_iff ..).mp h _ ((mem_decodeTable ..).mpr ⟨k, e, he, rfl⟩)

/-- What a scan finds among the first outputs it finds there whatever follows them. -/
theorem scan_append_congr {q : ReqIn} {ds es : List DecOut} {i : Nat} {f : Flags} (es' : List DecOut)
    (h : scan q 0 (ds ++ es) = some (i, f)) (hi : i < ds.length) : scan q 0 (ds ++ es') = some (i, f) := by
  rw [scan_append] at h ⊢
  cases hs : scan q 0 ds with
  | some m => rwa [hs] at h
  | none =>
    rw [hs, Option.none_or] at h
    obtain ⟨k, -, hk, -⟩ := (scan_eq_some_iff ..).mp h
    omega

/-- The outputs of a table's first entries stand in front, whatever follows them. -/
theorem decodeTable_append (tick : Nat) (es fs : List Entry) :
    ∃ ds, decodeTable tick (es ++ fs) = decodeTable tick es ++ ds := ⟨_, decodeFrom_append ..⟩

/-! ### The result of a scan -/

theorem resultOf_hit {p : NoMatchPolicy} {ty : AccessType} {m : Option (Nat × Flags)}
    (h : (resultOf p ty m).hit = true) : ∃ i f, m = some (i, f) := by
  rcases m with _ | ⟨i, f⟩
  · exact absurd h Bool.false_ne_true
  · exact ⟨i, f, rfl⟩

theorem resolve_accessOk_of_hit {p : NoMatchPolicy} {tick : Nat} {es : List Entry} {q : ReqIn}
    (herr : (resolve p tick es q).err = false) (hhit : (resolve p tick es q).hit = true) :
    (resolve p tick es q).accessOk = (resolve p tick es q).grant := by
  have hform := resolve_resultForm p tick es q herr
  rw [if_pos hhit] at hform
  exact hform.1

theorem resolve_accessOk_of_no_hit {p : NoMatchPolicy} {tick : Nat} {es : List Entry} {q : ReqIn}
    (herr : (resolve p tick es q).err = false) (hmiss : (resolve p tick es q).hit = false) :
    (resolve p tick es q).accessOk = true ↔ p = .allow := by
  have hform := resolve_resultForm p tick es q herr
  rw [if_neg (Bool.eq_false_iff.mp hmiss)] at hform
  obtain ⟨-, -, -, hpolicy⟩ := hform
  exact hpolicy

/-- The policy enters the result of a scan through `access_ok` alone (R125). -/
theorem resultOf_policy (p p' : NoMatchPolicy) (ty : AccessType) (m : Option (Nat × Flags)) :
    resultOf p' ty m = { resultOf p ty m with accessOk := (resultOf p' ty m).accessOk } := by
  rcases m with _ | ⟨i, f⟩ <;> rfl

/-- No output under `err` is the policy's, so this holds of every request and table. -/
theorem resolve_policy (p p' : NoMatchPolicy) (tick : Nat) (es : List Entry) (q : ReqIn) :
    resolve p' tick es q = { resolve p tick es q with accessOk := (resolve p' tick es q).accessOk } := by
  simp only [resolve]
  cases accessTypeOf q.reqType with
  | none => rfl
  | some ty =>
    cases errOf q (decodeTable tick es) with
    | true => rfl
    | false => exact resultOf_policy p p' ty _

/-- Two tables with the same first entries, among which one of them hits, give one result if neither gives `err`. -/
theorem resolve_append_congr {p : NoMatchPolicy} {tick : Nat} {es fs gs : List Entry} {q : ReqIn}
    (herr : (resolve p tick (es ++ fs) q).err = false) (herr' : (resolve p tick (es ++ gs) q).err = false)
    (hhit : (resolve p tick (es ++ fs) q).hit = true)
    (hindex : (resolve p tick (es ++ fs) q).matchIndex < es.length) :
    resolve p tick (es ++ fs) q = resolve p tick (es ++ gs) q := by
  obtain ⟨ty, ht, -, hr⟩ := resolve_of_no_err herr
  obtain ⟨ty', ht', -, hr'⟩ := resolve_of_no_err herr'
  obtain rfl : ty = ty' := Option.some.inj (ht.symm.trans ht')
  obtain ⟨ds, hds⟩ := decodeTable_append tick es fs
  obtain ⟨ds', hds'⟩ := decodeTable_append tick es gs
  rw [hr] at hhit hindex
  obtain ⟨i, f, hscan⟩ := resultOf_hit hhit
  rw [hscan] at hindex
  have hi : i < (decodeTable tick es).length := by rwa [decodeTable_length]
  rw [hr, hr', hscan, hds', scan_append_congr ds' (hds ▸ hscan) hi]

/-! ### The six operations -/

/-- A request operation presents its ports, whose result, `err` included, is RESOLVE's. -/
theorem exec_requestOp_of_type {sv : Bool} {ty : BitVec 2} (hty : ty ≠ 3) (A n : Word) (s : State) :
    ∃ t, exec (requestOp sv ty A n) s = .next t ∧ t.req = requestPorts sv ty A n ∧
      t.res = resolve s.policy t.tick s.table (requestPorts sv ty A n) ∧
      (t.res.err = true ↔ (sv = true ∧ A.toNat + n.toNat > 2 ^ 64) ∨ ¬ TableFits s.table) ∧
      ResolverFrame s t ∧ EntryOutputs s.table t.ent :=
  have herr := (resolve_err_iff_of_type hty).trans (or_congr_left (not_inSpace_requestPorts sv ty A n))
  ⟨_, exec_requestOp .., rfl, rfl, herr, evalRequest_frame .., decodeTable_entryOutputs ..⟩

end Sys2Proof.Machine

namespace Sys2Proof.Proofs

open Sys2Proof.Machine

/-- Settles O21: a size of 2 or more ends above a region that ends just above the address; a size of 0 ends at it. -/
theorem containmentIsAllOrNothing : Obligations.ContainmentIsAllOrNothing := by
  refine ⟨contains_iff_covers, fun r q hsized hone => ?_, fun r q hsized htwo hlast => ?_,
    fun r q hsized hzero hend hle => ?_⟩
  · exact Eq.symm (contains_size_one_eq_point r rfl rfl hsized hone)
  · rw [← Bool.not_eq_true, contains_iff_covers, Covers, if_pos hsized]
    omega
  · rw [contains_iff_covers, Covers, if_pos hsized, hzero, hend]
    exact and_iff_left ⟨hle, le_rfl⟩

/-- Settles O22: a legal request has the scan's result, and the scan stops at the first containing entry or at none. -/
theorem resolveReportsTheFirstContainingEntry : Obligations.ResolveReportsTheFirstContainingEntry := by
  intro sv code A n s hty hspace hfits
  obtain ⟨ty, hcode, hres⟩ := resolve_of_legal s.policy (s.tick + 1) hty hspace hfits
  refine ⟨_, exec_requestOp .., ?_, ?_⟩ <;> rw [evalRequest_res, hres]
  · exact resultOf_err ..
  · cases hscan : scan (requestPorts sv code A n) 0 (decodeTable (s.tick + 1) s.table) with
    | none => exact .inr ⟨scan_decodeTable_eq_none hscan, rfl, rfl, rfl, rfl⟩
    | some m =>
      obtain ⟨e, he, hcovers, hflags, hfirst⟩ := scan_decodeTable_eq_some hscan
      have hgrant : m.2.has ty = e.cfg.getLsbD code.toNat := hflags ▸ perm_has e.cfg code ty hcode
      have hset : m.2.permSet = e.cfg.extractLsb' 0 3 := hflags ▸ perm_permSet e.cfg
      refine .inl ⟨m.1, e, he, hcovers, hfirst, rfl, rfl, hgrant, ?_⟩
      rw [← hgrant, ← hset]
      rfl

/-- Settles O23: each operation is the request of its own type and size presence. -/
theorem resolveOperationsAndTheirFrame : Obligations.ResolveOperationsAndTheirFrame := by
  intro A n s
  have hpoint {ty : BitVec 2} (hty : ty ≠ 3) := exec_requestOp_of_type (sv := false) hty A n s
  have hsized {ty : BitVec 2} (hty : ty ≠ 3) := exec_requestOp_of_type (sv := true) hty A n s
  simp only [Bool.false_eq_true, false_and, false_or] at hpoint
  simp only [true_and] at hsized
  exact ⟨hpoint (ty := 0) (by decide), hpoint (ty := 1) (by decide), hpoint (ty := 2) (by decide),
    hsized (ty := 0) (by decide), hsized (ty := 1) (by decide), hsized (ty := 2) (by decide)⟩

/-- Settles O26: the two results are one but for `access_ok`, which is what the form of a result says it is. -/
theorem noMatchPolicyDecidesAccessOkOnly : Obligations.NoMatchPolicyDecidesAccessOkOnly := by
  intro sv ty A n s t u p ht hu
  rw [exec_requestOp] at ht hu
  obtain rfl := Host.Outcome.next.inj ht
  obtain rfl := Host.Outcome.next.inj hu
  have hres := resolve_policy s.policy p (s.tick + 1) s.table (requestPorts sv ty A n)
  rw [evalRequest_res, evalRequest_res]
  exact ⟨(congrArg ResOut.err hres).symm,
    fun herr => ⟨resolve_accessOk_of_hit herr, resolve_accessOk_of_no_hit herr, hres⟩⟩

/-- Settles O27: the empty table fits, and a scan of it finds nothing. -/
theorem emptyTableNeverMatches : Obligations.EmptyTableNeverMatches := by
  intro sv code A n s hempty hty hspace
  obtain ⟨ty, -, hres⟩ := resolve_of_legal s.policy (s.tick + 1) hty hspace tableFits_nil
  refine ⟨_, exec_requestOp .., ?_⟩
  rw [evalRequest_res, evalRequest_ent, hempty, hres]
  exact ⟨rfl, rfl, rfl, rfl, rfl, rfl⟩

/-- Settles O28: the scan has stopped before the entries in which the two tables differ. -/
theorem laterEntriesAreShadowed : Obligations.LaterEntriesAreShadowed := by
  intro sv ty A n s t u E F G htable ht hu herr herr' hhit hindex
  rw [exec_requestOp] at ht hu
  obtain rfl := Host.Outcome.next.inj ht
  obtain rfl := Host.Outcome.next.inj hu
  rw [evalRequest_res, htable] at herr hhit hindex
  rw [evalRequest_res, evalRequest_res, htable]
  exact resolve_append_congr herr herr' hhit hindex

end Sys2Proof.Proofs

/-! PROOFS. The statement about errors: `err` and the illegal inputs that raise it (R144, R145). -/

namespace Sys2Proof.Machine

/-- Some entry's decoder raises `range_err` exactly when the table does not fit (R95). -/
theorem exists_rangeErr_iff (tick : Nat) (es : List Entry) :
    (∃ d ∈ decodeTable tick es, d.rangeErr = true) ↔ ¬ TableFits es :=
  List.any_eq_true.symm.trans (any_rangeErr_iff tick es)

/-- The three causes of `err` in the operands' and the ports' own terms (R144, R145). -/
theorem resolve_requestPorts_err_iff (p : NoMatchPolicy) (tick : Nat) (es : List Entry) (sv : Bool) (ty : BitVec 2)
    (A n : Word) :
    (resolve p tick es (requestPorts sv ty A n)).err = true ↔
      ty = 3 ∨ (sv = true ∧ A.toNat + n.toNat > 2 ^ 64) ∨ ∃ d ∈ decodeTable tick es, d.rangeErr = true := by
  rw [resolve_err_iff, not_inSpace_requestPorts, exists_rangeErr_iff]
  rfl

end Sys2Proof.Machine

namespace Sys2Proof.Proofs

open Sys2Proof.Machine

/-- Settles O24: the result and the per-entry outputs are functions of the same table, which fits exactly when no entry
raises `range_err`. -/
theorem errExactlyOnIllegalInput : Obligations.ErrExactlyOnIllegalInput := by
  intro sv ty A n s
  refine ⟨_, exec_requestOp .., ?_⟩
  rw [evalRequest_res, evalRequest_ent]
  exact ⟨resolve_requestPorts_err_iff .., exists_rangeErr_iff .., decodeTable_entryOutputs ..⟩

end Sys2Proof.Proofs

/-! PROOFS. The statement about the step's dispatch: the operation run is the one the word presented first decodes to
(R167, R172). -/

namespace Sys2Proof.Proofs

open Sys2Proof.Machine

/-- Settles O38: taking the word writes the list of presented operations alone. -/
theorem stepRunsTheDecodedOperation : Obligations.StepRunsTheDecodedOperation :=
  fun _ _ _ _ hp hd => step_of_decode_ok hp hd

end Sys2Proof.Proofs

/-! PROOFS. The statement about a step with no operation presented (C8). -/

namespace Sys2Proof.Proofs

open Sys2Proof.Machine

/-- Settles O39: the step is DECODE_ALL of the table that stands, so O18 at that table says it all. -/
theorem stepWithoutOperationDecodesTheTable : Obligations.StepWithoutOperationDecodesTheTable := by
  intro s hp
  rw [step_of_program_nil hp]
  exact decodeAllThreadsTheRawRegister s.table s

end Sys2Proof.Proofs
